-- ==== Sys2Proof/Word.lean ====
section
/-!
DEFINITION. The word types of the compositor and the plainest facts about their bits.
`00_scope.md` rules R10 and R16: unsigned 8, 16 and 32 bit words, two's complement for signed ones.
-/

namespace Sys2Proof

/-- A byte: one half of a 16-bit entry in the byte view of a space (`20_memory.md` R70), an 8-bit register, a key byte. -/
abbrev Byte := BitVec 8

/-- A 16-bit entry (`20_memory.md` R71): a register, an OAM word, a tile map entry. -/
abbrev Half := BitVec 16

/-- A packed pixel (`30_encoding.md` R105): channels A `[4:0]`, B `[9:5]`, C `[14:10]`, marker M `[15]`. -/
abbrev Pixel := BitVec 16

/-- A 32-bit HDMA entry (`30_encoding.md` R101), and the width of the host port's data. -/
abbrev Entry := BitVec 32

end Sys2Proof
end

