-- ==== Sys2Proof/Config.lean ====
section
/-!
DEFINITION. What an implementation of the compositor fixes: the sizes of `00_scope.md` R8, which the spec gives as
constants, the one open size `FB_AW` (`92_eei_decisions.md` D26), and the one free value of the spec, the content of an
HDMA entry that nothing has written (`93_implementation_defined.md` U1).
-/

namespace Sys2Proof.Config

/-- `W`: pixels per display row, columns 0..239 (`00_scope.md` R8). -/
abbrev width : Nat := 240

/-- `H`: display rows 0..239 (`00_scope.md` R8). -/
abbrev height : Nat := 240

/-- `SECROWS`: rows per section (`00_scope.md` R8). -/
abbrev sectionRows : Nat := 60

/-- The pixels of one section, `W * SECROWS` (`20_memory.md` R78). -/
abbrev sectionPixels : Nat := 14400

/-- `NSPR`: sprite table entries (`00_scope.md` R8). -/
abbrev sprites : Nat := 256

/-- `CACHE`: sprite cache entries per priority class (`00_scope.md` R8). -/
abbrev cacheSlots : Nat := 16

/-- `HDMA_LEN`: entries per HDMA table (`00_scope.md` R8). -/
abbrev hdmaLen : Nat := 240

/-- `FIELD`: the edge of a background field in pixels (`00_scope.md` R8, `90_conflicts.md` C3). -/
abbrev field : Nat := 512

/-- What `FB_AW` has beyond its least value 14. Log 5: the spec leaves `FB_AW` open, so nothing is known of this number. -/
opaque fbAwExtra : Nat

/-- `FB_AW`, the width in bits of a frame-buffer pixel address: an open parameter of at least 14
(`92_eei_decisions.md` D26 and its table of open parameters). Log 5. -/
def fbAW : Nat := 14 + fbAwExtra

/-- The free value of `93_implementation_defined.md` U1: the byte at byte address `a` of the HDMA tables as long as nothing
has written it, "arbitrary but fixed until written" (`10_state.md` R58). Log 3. -/
opaque hdmaUnwritten : Nat → Byte

end Sys2Proof.Config
end

