-- ==== Sys2Proof/Syntax.lean ====
section
/-!
DEFINITION. The instructions of the compositor (`00_scope.md` R3): one constructor for each of the 389 rows of
`spec/opcode_table.json`, and the words they are read from. The order is the table's, but for the rows with operands, which
stand first (Lean's compiler admits no operands on a constructor after the 244th).
-/

namespace Sys2Proof

/-- The formats of `30_encoding.md` R100 and R121 that the opcode table's rows are written in. -/
inductive Format where
  /-- The 32-bit HDMA entry (R101). -/
  | hdmaEntry
  /-- The main flags byte x[8], key in bits 5:0 (R111). -/
  | mainKey
  /-- A sprite's flags byte, key in bits 5:2 (R113). -/
  | sprKey
  /-- The colour-math flags byte x[10] (R112). -/
  | cmathKey
  /-- One nibble of a windows byte, in bits 3:0 (R114). -/
  | winNib
  /-- A host write to register x[n] (R119, R121). -/
  | hostWrite
deriving DecidableEq, Repr

/-- A word that an instruction is read from, together with what the word itself does not hold. The key formats overlap
as bits (log 1), so the format travels with the word. -/
inductive Code where
  /-- An HDMA entry `e` (R101). -/
  | hdma (e : Entry)
  /-- The main flags byte (R111). -/
  | mainKey (b : Byte)
  /-- The flags byte `b` of sprite `i` (R113): the microcode's operand `i` comes from the sprite cache slot, not from the byte. -/
  | sprKey (i : Byte) (b : Byte)
  /-- The colour-math flags byte (R112). -/
  | cmathKey (b : Byte)
  /-- A window nibble (R114), in the low four bits. -/
  | winNib (b : Byte)
  /-- The host writes `v` to x[`n`] (R119). -/
  | hostWrite (n : BitVec 6) (v : Half)
deriving DecidableEq, Repr

/-- The instructions. Every bit of an HDMA entry is an operand or fixed by the row, the ignored `value` of `HDMA.NOP`,
`HDMA.DISABLE` and `HDMA.RSVD` too, so that no bit of an entry is lost. -/
inductive Instr where
  /-- Tag 0: nothing; `value` is ignored (R142). -/
  | hdmaNop (value : Half)
  /-- Tag 1: x[1] MAIN_COLOUR takes `value` (R143). -/
  | hdmaWMainColour (value : Half)
  /-- Tag 2: x[2] SUB_COLOUR takes `value` (R144). -/
  | hdmaWSubColour (value : Half)
  /-- Tag 3: x[3] WIN1_LEFT takes `value` (R145). -/
  | hdmaWWin1Left (value : Half)
  /-- Tag 4: x[4] WIN1_RIGHT takes `value` (R146). -/
  | hdmaWWin1Right (value : Half)
  /-- Tag 5: x[5] WIN2_LEFT takes `value` (R147). -/
  | hdmaWWin2Left (value : Half)
  /-- Tag 6: x[6] WIN2_RIGHT takes `value` (R148). -/
  | hdmaWWin2Right (value : Half)
  /-- Tag 7: x[7] BGCOL_WINDOWS takes `value[7:0]` (R149). -/
  | hdmaWBgcolWindows (value : Half)
  /-- Tag 8: x[8] MAIN_FLAGS takes `value[7:0]` (R150). -/
  | hdmaWMainFlags (value : Half)
  /-- Tag 9: x[9] CMATH_FADE takes `value` (R151). -/
  | hdmaWCmathFade (value : Half)
  /-- Tag 10: x[10] CMATH_FLAGS takes `value[7:0]` (R152). -/
  | hdmaWCmathFlags (value : Half)
  /-- Tag 11: x[11] BG0_X takes `value` (R153). -/
  | hdmaWBg0X (value : Half)
  /-- Tag 12: x[12] BG0_Y takes `value` (R154). -/
  | hdmaWBg0Y (value : Half)
  /-- Tag 13: x[13] BG0_WINDOWS takes `value[7:0]` (R155). -/
  | hdmaWBg0Windows (value : Half)
  /-- Tag 14: x[14] BG0_FLAGS takes `value[7:0]` (R156). -/
  | hdmaWBg0Flags (value : Half)
  /-- Tag 15: x[15] BG1_X takes `value` (R157). -/
  | hdmaWBg1X (value : Half)
  /-- Tag 16: x[16] BG1_Y takes `value` (R158). -/
  | hdmaWBg1Y (value : Half)
  /-- Tag 17: x[17] BG1_WINDOWS takes `value[7:0]` (R159). -/
  | hdmaWBg1Windows (value : Half)
  /-- Tag 18: x[18] BG1_FLAGS takes `value[7:0]` (R160). -/
  | hdmaWBg1Flags (value : Half)
  /-- Tag 19: x[19] HDMA_ENABLE takes `value[7:0]` (R161). -/
  | hdmaWHdmaEnable (value : Half)
  /-- Tag 20: the owning table clears its own enable bit; `value` is ignored (R162). -/
  | hdmaDisable (value : Half)
  /-- Reserved tags 21 to 21: as `HDMA.NOP` (R104, R163). -/
  | hdmaRsvd21 (tag value : Half)
  /-- Reserved tags 22 to 23: as `HDMA.NOP` (R104, R163). -/
  | hdmaRsvd22 (tag value : Half)
  /-- Reserved tags 24 to 31: as `HDMA.NOP` (R104, R163). -/
  | hdmaRsvd24 (tag value : Half)
  /-- Reserved tags 32 to 63: as `HDMA.NOP` (R104, R163). -/
  | hdmaRsvd32 (tag value : Half)
  /-- Reserved tags 64 to 127: as `HDMA.NOP` (R104, R163). -/
  | hdmaRsvd64 (tag value : Half)
  /-- Reserved tags 128 to 255: as `HDMA.NOP` (R104, R163). -/
  | hdmaRsvd128 (tag value : Half)
  /-- Reserved tags 256 to 511: as `HDMA.NOP` (R104, R163). -/
  | hdmaRsvd256 (tag value : Half)
  /-- Reserved tags 512 to 1023: as `HDMA.NOP` (R104, R163). -/
  | hdmaRsvd512 (tag value : Half)
  /-- Reserved tags 1024 to 2047: as `HDMA.NOP` (R104, R163). -/
  | hdmaRsvd1024 (tag value : Half)
  /-- Reserved tags 2048 to 4095: as `HDMA.NOP` (R104, R163). -/
  | hdmaRsvd2048 (tag value : Half)
  /-- Reserved tags 4096 to 8191: as `HDMA.NOP` (R104, R163). -/
  | hdmaRsvd4096 (tag value : Half)
  /-- Reserved tags 8192 to 16383: as `HDMA.NOP` (R104, R163). -/
  | hdmaRsvd8192 (tag value : Half)
  /-- Reserved tags 16384 to 32767: as `HDMA.NOP` (R104, R163). -/
  | hdmaRsvd16384 (tag value : Half)
  /-- Reserved tags 32768 to 65535: as `HDMA.NOP` (R104, R163). -/
  | hdmaRsvd32768 (tag value : Half)
  /-- Host write of `v` to x[35]: render section `v[1:0]` (R45, R300). -/
  | render (v : Half)
  /-- Host write of `v` to x[32]: forced blank becomes `v[0]` (R42, R302). -/
  | blank (v : Half)
  /-- Blit microcode of key 0 for sprite `i`: none (R250, R259). -/
  | sprblit0 (i : Byte)
  /-- Blit microcode of key 1 for sprite `i`: SPR_FLIP_X (R250, R259). -/
  | sprblit1 (i : Byte)
  /-- Blit microcode of key 2 for sprite `i`: SPR_FLIP_Y (R250, R259). -/
  | sprblit2 (i : Byte)
  /-- Blit microcode of key 3 for sprite `i`: SPR_FLIP_X SPR_FLIP_Y (R250, R259). -/
  | sprblit3 (i : Byte)
  /-- Blit microcode of key 4 for sprite `i`: SPR_CMATH (R250, R259). -/
  | sprblit4 (i : Byte)
  /-- Blit microcode of key 5 for sprite `i`: SPR_FLIP_X SPR_CMATH (R250, R259). -/
  | sprblit5 (i : Byte)
  /-- Blit microcode of key 6 for sprite `i`: SPR_FLIP_Y SPR_CMATH (R250, R259). -/
  | sprblit6 (i : Byte)
  /-- Blit microcode of key 7 for sprite `i`: SPR_FLIP_X SPR_FLIP_Y SPR_CMATH (R250, R259). -/
  | sprblit7 (i : Byte)
  /-- Blit microcode of key 8 for sprite `i`: SPR_DOUBLE (R250, R259). -/
  | sprblit8 (i : Byte)
  /-- Blit microcode of key 9 for sprite `i`: SPR_FLIP_X SPR_DOUBLE (R250, R259). -/
  | sprblit9 (i : Byte)
  /-- Blit microcode of key 10 for sprite `i`: SPR_FLIP_Y SPR_DOUBLE (R250, R259). -/
  | sprblit10 (i : Byte)
  /-- Blit microcode of key 11 for sprite `i`: SPR_FLIP_X SPR_FLIP_Y SPR_DOUBLE (R250, R259). -/
  | sprblit11 (i : Byte)
  /-- Blit microcode of key 12 for sprite `i`: SPR_CMATH SPR_DOUBLE (R250, R259). -/
  | sprblit12 (i : Byte)
  /-- Blit microcode of key 13 for sprite `i`: SPR_FLIP_X SPR_CMATH SPR_DOUBLE (R250, R259). -/
  | sprblit13 (i : Byte)
  /-- Blit microcode of key 14 for sprite `i`: SPR_FLIP_Y SPR_CMATH SPR_DOUBLE (R250, R259). -/
  | sprblit14 (i : Byte)
  /-- Blit microcode of key 15 for sprite `i`: SPR_FLIP_X SPR_FLIP_Y SPR_CMATH SPR_DOUBLE (R250, R259). -/
  | sprblit15 (i : Byte)
  /-- Scanline microcode of main key 0x00: none (R220). -/
  | scan00
  /-- Scanline microcode of main key 0x01: SPR0 (R220). -/
  | scan01
  /-- Scanline microcode of main key 0x02: SPR1 (R220). -/
  | scan02
  /-- Scanline microcode of main key 0x03: SPR0 SPR1 (R220). -/
  | scan03
  /-- Scanline microcode of main key 0x04: BG0 (R220). -/
  | scan04
  /-- Scanline microcode of main key 0x05: SPR0 BG0 (R220). -/
  | scan05
  /-- Scanline microcode of main key 0x06: SPR1 BG0 (R220). -/
  | scan06
  /-- Scanline microcode of main key 0x07: SPR0 SPR1 BG0 (R220). -/
  | scan07
  /-- Scanline microcode of main key 0x08: BG1 (R220). -/
  | scan08
  /-- Scanline microcode of main key 0x09: SPR0 BG1 (R220). -/
  | scan09
  /-- Scanline microcode of main key 0x0A: SPR1 BG1 (R220). -/
  | scan0A
  /-- Scanline microcode of main key 0x0B: SPR0 SPR1 BG1 (R220). -/
  | scan0B
  /-- Scanline microcode of main key 0x0C: BG0 BG1 (R220). -/
  | scan0C
  /-- Scanline microcode of main key 0x0D: SPR0 BG0 BG1 (R220). -/
  | scan0D
  /-- Scanline microcode of main key 0x0E: SPR1 BG0 BG1 (R220). -/
  | scan0E
  /-- Scanline microcode of main key 0x0F: SPR0 SPR1 BG0 BG1 (R220). -/
  | scan0F
  /-- Scanline microcode of main key 0x10: CMATH (R220). -/
  | scan10
  /-- Scanline microcode of main key 0x11: SPR0 CMATH (R220). -/
  | scan11
  /-- Scanline microcode of main key 0x12: SPR1 CMATH (R220). -/
  | scan12
  /-- Scanline microcode of main key 0x13: SPR0 SPR1 CMATH (R220). -/
  | scan13
  /-- Scanline microcode of main key 0x14: BG0 CMATH (R220). -/
  | scan14
  /-- Scanline microcode of main key 0x15: SPR0 BG0 CMATH (R220). -/
  | scan15
  /-- Scanline microcode of main key 0x16: SPR1 BG0 CMATH (R220). -/
  | scan16
  /-- Scanline microcode of main key 0x17: SPR0 SPR1 BG0 CMATH (R220). -/
  | scan17
  /-- Scanline microcode of main key 0x18: BG1 CMATH (R220). -/
  | scan18
  /-- Scanline microcode of main key 0x19: SPR0 BG1 CMATH (R220). -/
  | scan19
  /-- Scanline microcode of main key 0x1A: SPR1 BG1 CMATH (R220). -/
  | scan1A
  /-- Scanline microcode of main key 0x1B: SPR0 SPR1 BG1 CMATH (R220). -/
  | scan1B
  /-- Scanline microcode of main key 0x1C: BG0 BG1 CMATH (R220). -/
  | scan1C
  /-- Scanline microcode of main key 0x1D: SPR0 BG0 BG1 CMATH (R220). -/
  | scan1D
  /-- Scanline microcode of main key 0x1E: SPR1 BG0 BG1 CMATH (R220). -/
  | scan1E
  /-- Scanline microcode of main key 0x1F: SPR0 SPR1 BG0 BG1 CMATH (R220). -/
  | scan1F
  /-- Scanline microcode of main key 0x20: BGCOLWIN (R220). -/
  | scan20
  /-- Scanline microcode of main key 0x21: SPR0 BGCOLWIN (R220). -/
  | scan21
  /-- Scanline microcode of main key 0x22: SPR1 BGCOLWIN (R220). -/
  | scan22
  /-- Scanline microcode of main key 0x23: SPR0 SPR1 BGCOLWIN (R220). -/
  | scan23
  /-- Scanline microcode of main key 0x24: BG0 BGCOLWIN (R220). -/
  | scan24
  /-- Scanline microcode of main key 0x25: SPR0 BG0 BGCOLWIN (R220). -/
  | scan25
  /-- Scanline microcode of main key 0x26: SPR1 BG0 BGCOLWIN (R220). -/
  | scan26
  /-- Scanline microcode of main key 0x27: SPR0 SPR1 BG0 BGCOLWIN (R220). -/
  | scan27
  /-- Scanline microcode of main key 0x28: BG1 BGCOLWIN (R220). -/
  | scan28
  /-- Scanline microcode of main key 0x29: SPR0 BG1 BGCOLWIN (R220). -/
  | scan29
  /-- Scanline microcode of main key 0x2A: SPR1 BG1 BGCOLWIN (R220). -/
  | scan2A
  /-- Scanline microcode of main key 0x2B: SPR0 SPR1 BG1 BGCOLWIN (R220). -/
  | scan2B
  /-- Scanline microcode of main key 0x2C: BG0 BG1 BGCOLWIN (R220). -/
  | scan2C
  /-- Scanline microcode of main key 0x2D: SPR0 BG0 BG1 BGCOLWIN (R220). -/
  | scan2D
  /-- Scanline microcode of main key 0x2E: SPR1 BG0 BG1 BGCOLWIN (R220). -/
  | scan2E
  /-- Scanline microcode of main key 0x2F: SPR0 SPR1 BG0 BG1 BGCOLWIN (R220). -/
  | scan2F
  /-- Scanline microcode of main key 0x30: CMATH BGCOLWIN (R220). -/
  | scan30
  /-- Scanline microcode of main key 0x31: SPR0 CMATH BGCOLWIN (R220). -/
  | scan31
  /-- Scanline microcode of main key 0x32: SPR1 CMATH BGCOLWIN (R220). -/
  | scan32
  /-- Scanline microcode of main key 0x33: SPR0 SPR1 CMATH BGCOLWIN (R220). -/
  | scan33
  /-- Scanline microcode of main key 0x34: BG0 CMATH BGCOLWIN (R220). -/
  | scan34
  /-- Scanline microcode of main key 0x35: SPR0 BG0 CMATH BGCOLWIN (R220). -/
  | scan35
  /-- Scanline microcode of main key 0x36: SPR1 BG0 CMATH BGCOLWIN (R220). -/
  | scan36
  /-- Scanline microcode of main key 0x37: SPR0 SPR1 BG0 CMATH BGCOLWIN (R220). -/
  | scan37
  /-- Scanline microcode of main key 0x38: BG1 CMATH BGCOLWIN (R220). -/
  | scan38
  /-- Scanline microcode of main key 0x39: SPR0 BG1 CMATH BGCOLWIN (R220). -/
  | scan39
  /-- Scanline microcode of main key 0x3A: SPR1 BG1 CMATH BGCOLWIN (R220). -/
  | scan3A
  /-- Scanline microcode of main key 0x3B: SPR0 SPR1 BG1 CMATH BGCOLWIN (R220). -/
  | scan3B
  /-- Scanline microcode of main key 0x3C: BG0 BG1 CMATH BGCOLWIN (R220). -/
  | scan3C
  /-- Scanline microcode of main key 0x3D: SPR0 BG0 BG1 CMATH BGCOLWIN (R220). -/
  | scan3D
  /-- Scanline microcode of main key 0x3E: SPR1 BG0 BG1 CMATH BGCOLWIN (R220). -/
  | scan3E
  /-- Scanline microcode of main key 0x3F: SPR0 SPR1 BG0 BG1 CMATH BGCOLWIN (R220). -/
  | scan3F
  /-- Colour-math microcode of key 0x00: none (R270, R281). -/
  | cmath00
  /-- Colour-math microcode of key 0x01: HALF_MAIN (R270, R281). -/
  | cmath01
  /-- Colour-math microcode of key 0x02: DOUBLE_MAIN (R270, R281). -/
  | cmath02
  /-- Colour-math microcode of key 0x03: HALF_MAIN DOUBLE_MAIN (R270, R281). -/
  | cmath03
  /-- Colour-math microcode of key 0x04: HALF_SUB (R270, R281). -/
  | cmath04
  /-- Colour-math microcode of key 0x05: HALF_MAIN HALF_SUB (R270, R281). -/
  | cmath05
  /-- Colour-math microcode of key 0x06: DOUBLE_MAIN HALF_SUB (R270, R281). -/
  | cmath06
  /-- Colour-math microcode of key 0x07: HALF_MAIN DOUBLE_MAIN HALF_SUB (R270, R281). -/
  | cmath07
  /-- Colour-math microcode of key 0x08: DOUBLE_SUB (R270, R281). -/
  | cmath08
  /-- Colour-math microcode of key 0x09: HALF_MAIN DOUBLE_SUB (R270, R281). -/
  | cmath09
  /-- Colour-math microcode of key 0x0A: DOUBLE_MAIN DOUBLE_SUB (R270, R281). -/
  | cmath0A
  /-- Colour-math microcode of key 0x0B: HALF_MAIN DOUBLE_MAIN DOUBLE_SUB (R270, R281). -/
  | cmath0B
  /-- Colour-math microcode of key 0x0C: HALF_SUB DOUBLE_SUB (R270, R281). -/
  | cmath0C
  /-- Colour-math microcode of key 0x0D: HALF_MAIN HALF_SUB DOUBLE_SUB (R270, R281). -/
  | cmath0D
  /-- Colour-math microcode of key 0x0E: DOUBLE_MAIN HALF_SUB DOUBLE_SUB (R270, R281). -/
  | cmath0E
  /-- Colour-math microcode of key 0x0F: HALF_MAIN DOUBLE_MAIN HALF_SUB DOUBLE_SUB (R270, R281). -/
  | cmath0F
  /-- Colour-math microcode of key 0x10: ADD_SUB (R270, R281). -/
  | cmath10
  /-- Colour-math microcode of key 0x11: HALF_MAIN ADD_SUB (R270, R281). -/
  | cmath11
  /-- Colour-math microcode of key 0x12: DOUBLE_MAIN ADD_SUB (R270, R281). -/
  | cmath12
  /-- Colour-math microcode of key 0x13: HALF_MAIN DOUBLE_MAIN ADD_SUB (R270, R281). -/
  | cmath13
  /-- Colour-math microcode of key 0x14: HALF_SUB ADD_SUB (R270, R281). -/
  | cmath14
  /-- Colour-math microcode of key 0x15: HALF_MAIN HALF_SUB ADD_SUB (R270, R281). -/
  | cmath15
  /-- Colour-math microcode of key 0x16: DOUBLE_MAIN HALF_SUB ADD_SUB (R270, R281). -/
  | cmath16
  /-- Colour-math microcode of key 0x17: HALF_MAIN DOUBLE_MAIN HALF_SUB ADD_SUB (R270, R281). -/
  | cmath17
  /-- Colour-math microcode of key 0x18: DOUBLE_SUB ADD_SUB (R270, R281). -/
  | cmath18
  /-- Colour-math microcode of key 0x19: HALF_MAIN DOUBLE_SUB ADD_SUB (R270, R281). -/
  | cmath19
  /-- Colour-math microcode of key 0x1A: DOUBLE_MAIN DOUBLE_SUB ADD_SUB (R270, R281). -/
  | cmath1A
  /-- Colour-math microcode of key 0x1B: HALF_MAIN DOUBLE_MAIN DOUBLE_SUB ADD_SUB (R270, R281). -/
  | cmath1B
  /-- Colour-math microcode of key 0x1C: HALF_SUB DOUBLE_SUB ADD_SUB (R270, R281). -/
  | cmath1C
  /-- Colour-math microcode of key 0x1D: HALF_MAIN HALF_SUB DOUBLE_SUB ADD_SUB (R270, R281). -/
  | cmath1D
  /-- Colour-math microcode of key 0x1E: DOUBLE_MAIN HALF_SUB DOUBLE_SUB ADD_SUB (R270, R281). -/
  | cmath1E
  /-- Colour-math microcode of key 0x1F: HALF_MAIN DOUBLE_MAIN HALF_SUB DOUBLE_SUB ADD_SUB (R270, R281). -/
  | cmath1F
  /-- Colour-math microcode of key 0x20: SUB_SUB (R270, R281). -/
  | cmath20
  /-- Colour-math microcode of key 0x21: HALF_MAIN SUB_SUB (R270, R281). -/
  | cmath21
  /-- Colour-math microcode of key 0x22: DOUBLE_MAIN SUB_SUB (R270, R281). -/
  | cmath22
  /-- Colour-math microcode of key 0x23: HALF_MAIN DOUBLE_MAIN SUB_SUB (R270, R281). -/
  | cmath23
  /-- Colour-math microcode of key 0x24: HALF_SUB SUB_SUB (R270, R281). -/
  | cmath24
  /-- Colour-math microcode of key 0x25: HALF_MAIN HALF_SUB SUB_SUB (R270, R281). -/
  | cmath25
  /-- Colour-math microcode of key 0x26: DOUBLE_MAIN HALF_SUB SUB_SUB (R270, R281). -/
  | cmath26
  /-- Colour-math microcode of key 0x27: HALF_MAIN DOUBLE_MAIN HALF_SUB SUB_SUB (R270, R281). -/
  | cmath27
  /-- Colour-math microcode of key 0x28: DOUBLE_SUB SUB_SUB (R270, R281). -/
  | cmath28
  /-- Colour-math microcode of key 0x29: HALF_MAIN DOUBLE_SUB SUB_SUB (R270, R281). -/
  | cmath29
  /-- Colour-math microcode of key 0x2A: DOUBLE_MAIN DOUBLE_SUB SUB_SUB (R270, R281). -/
  | cmath2A
  /-- Colour-math microcode of key 0x2B: HALF_MAIN DOUBLE_MAIN DOUBLE_SUB SUB_SUB (R270, R281). -/
  | cmath2B
  /-- Colour-math microcode of key 0x2C: HALF_SUB DOUBLE_SUB SUB_SUB (R270, R281). -/
  | cmath2C
  /-- Colour-math microcode of key 0x2D: HALF_MAIN HALF_SUB DOUBLE_SUB SUB_SUB (R270, R281). -/
  | cmath2D
  /-- Colour-math microcode of key 0x2E: DOUBLE_MAIN HALF_SUB DOUBLE_SUB SUB_SUB (R270, R281). -/
  | cmath2E
  /-- Colour-math microcode of key 0x2F: HALF_MAIN DOUBLE_MAIN HALF_SUB DOUBLE_SUB SUB_SUB (R270, R281). -/
  | cmath2F
  /-- Colour-math microcode of key 0x30: ADD_SUB SUB_SUB (R270, R281). -/
  | cmath30
  /-- Colour-math microcode of key 0x31: HALF_MAIN ADD_SUB SUB_SUB (R270, R281). -/
  | cmath31
  /-- Colour-math microcode of key 0x32: DOUBLE_MAIN ADD_SUB SUB_SUB (R270, R281). -/
  | cmath32
  /-- Colour-math microcode of key 0x33: HALF_MAIN DOUBLE_MAIN ADD_SUB SUB_SUB (R270, R281). -/
  | cmath33
  /-- Colour-math microcode of key 0x34: HALF_SUB ADD_SUB SUB_SUB (R270, R281). -/
  | cmath34
  /-- Colour-math microcode of key 0x35: HALF_MAIN HALF_SUB ADD_SUB SUB_SUB (R270, R281). -/
  | cmath35
  /-- Colour-math microcode of key 0x36: DOUBLE_MAIN HALF_SUB ADD_SUB SUB_SUB (R270, R281). -/
  | cmath36
  /-- Colour-math microcode of key 0x37: HALF_MAIN DOUBLE_MAIN HALF_SUB ADD_SUB SUB_SUB (R270, R281). -/
  | cmath37
  /-- Colour-math microcode of key 0x38: DOUBLE_SUB ADD_SUB SUB_SUB (R270, R281). -/
  | cmath38
  /-- Colour-math microcode of key 0x39: HALF_MAIN DOUBLE_SUB ADD_SUB SUB_SUB (R270, R281). -/
  | cmath39
  /-- Colour-math microcode of key 0x3A: DOUBLE_MAIN DOUBLE_SUB ADD_SUB SUB_SUB (R270, R281). -/
  | cmath3A
  /-- Colour-math microcode of key 0x3B: HALF_MAIN DOUBLE_MAIN DOUBLE_SUB ADD_SUB SUB_SUB (R270, R281). -/
  | cmath3B
  /-- Colour-math microcode of key 0x3C: HALF_SUB DOUBLE_SUB ADD_SUB SUB_SUB (R270, R281). -/
  | cmath3C
  /-- Colour-math microcode of key 0x3D: HALF_MAIN HALF_SUB DOUBLE_SUB ADD_SUB SUB_SUB (R270, R281). -/
  | cmath3D
  /-- Colour-math microcode of key 0x3E: DOUBLE_MAIN HALF_SUB DOUBLE_SUB ADD_SUB SUB_SUB (R270, R281). -/
  | cmath3E
  /-- Colour-math microcode of key 0x3F: HALF_MAIN DOUBLE_MAIN HALF_SUB DOUBLE_SUB ADD_SUB SUB_SUB (R270, R281). -/
  | cmath3F
  /-- Colour-math microcode of key 0x40: FADE_EN (R270, R281). -/
  | cmath40
  /-- Colour-math microcode of key 0x41: HALF_MAIN FADE_EN (R270, R281). -/
  | cmath41
  /-- Colour-math microcode of key 0x42: DOUBLE_MAIN FADE_EN (R270, R281). -/
  | cmath42
  /-- Colour-math microcode of key 0x43: HALF_MAIN DOUBLE_MAIN FADE_EN (R270, R281). -/
  | cmath43
  /-- Colour-math microcode of key 0x44: HALF_SUB FADE_EN (R270, R281). -/
  | cmath44
  /-- Colour-math microcode of key 0x45: HALF_MAIN HALF_SUB FADE_EN (R270, R281). -/
  | cmath45
  /-- Colour-math microcode of key 0x46: DOUBLE_MAIN HALF_SUB FADE_EN (R270, R281). -/
  | cmath46
  /-- Colour-math microcode of key 0x47: HALF_MAIN DOUBLE_MAIN HALF_SUB FADE_EN (R270, R281). -/
  | cmath47
  /-- Colour-math microcode of key 0x48: DOUBLE_SUB FADE_EN (R270, R281). -/
  | cmath48
  /-- Colour-math microcode of key 0x49: HALF_MAIN DOUBLE_SUB FADE_EN (R270, R281). -/
  | cmath49
  /-- Colour-math microcode of key 0x4A: DOUBLE_MAIN DOUBLE_SUB FADE_EN (R270, R281). -/
  | cmath4A
  /-- Colour-math microcode of key 0x4B: HALF_MAIN DOUBLE_MAIN DOUBLE_SUB FADE_EN (R270, R281). -/
  | cmath4B
  /-- Colour-math microcode of key 0x4C: HALF_SUB DOUBLE_SUB FADE_EN (R270, R281). -/
  | cmath4C
  /-- Colour-math microcode of key 0x4D: HALF_MAIN HALF_SUB DOUBLE_SUB FADE_EN (R270, R281). -/
  | cmath4D
  /-- Colour-math microcode of key 0x4E: DOUBLE_MAIN HALF_SUB DOUBLE_SUB FADE_EN (R270, R281). -/
  | cmath4E
  /-- Colour-math microcode of key 0x4F: HALF_MAIN DOUBLE_MAIN HALF_SUB DOUBLE_SUB FADE_EN (R270, R281). -/
  | cmath4F
  /-- Colour-math microcode of key 0x50: ADD_SUB FADE_EN (R270, R281). -/
  | cmath50
  /-- Colour-math microcode of key 0x51: HALF_MAIN ADD_SUB FADE_EN (R270, R281). -/
  | cmath51
  /-- Colour-math microcode of key 0x52: DOUBLE_MAIN ADD_SUB FADE_EN (R270, R281). -/
  | cmath52
  /-- Colour-math microcode of key 0x53: HALF_MAIN DOUBLE_MAIN ADD_SUB FADE_EN (R270, R281). -/
  | cmath53
  /-- Colour-math microcode of key 0x54: HALF_SUB ADD_SUB FADE_EN (R270, R281). -/
  | cmath54
  /-- Colour-math microcode of key 0x55: HALF_MAIN HALF_SUB ADD_SUB FADE_EN (R270, R281). -/
  | cmath55
  /-- Colour-math microcode of key 0x56: DOUBLE_MAIN HALF_SUB ADD_SUB FADE_EN (R270, R281). -/
  | cmath56
  /-- Colour-math microcode of key 0x57: HALF_MAIN DOUBLE_MAIN HALF_SUB ADD_SUB FADE_EN (R270, R281). -/
  | cmath57
  /-- Colour-math microcode of key 0x58: DOUBLE_SUB ADD_SUB FADE_EN (R270, R281). -/
  | cmath58
  /-- Colour-math microcode of key 0x59: HALF_MAIN DOUBLE_SUB ADD_SUB FADE_EN (R270, R281). -/
  | cmath59
  /-- Colour-math microcode of key 0x5A: DOUBLE_MAIN DOUBLE_SUB ADD_SUB FADE_EN (R270, R281). -/
  | cmath5A
  /-- Colour-math microcode of key 0x5B: HALF_MAIN DOUBLE_MAIN DOUBLE_SUB ADD_SUB FADE_EN (R270, R281). -/
  | cmath5B
  /-- Colour-math microcode of key 0x5C: HALF_SUB DOUBLE_SUB ADD_SUB FADE_EN (R270, R281). -/
  | cmath5C
  /-- Colour-math microcode of key 0x5D: HALF_MAIN HALF_SUB DOUBLE_SUB ADD_SUB FADE_EN (R270, R281). -/
  | cmath5D
  /-- Colour-math microcode of key 0x5E: DOUBLE_MAIN HALF_SUB DOUBLE_SUB ADD_SUB FADE_EN (R270, R281). -/
  | cmath5E
  /-- Colour-math microcode of key 0x5F: HALF_MAIN DOUBLE_MAIN HALF_SUB DOUBLE_SUB ADD_SUB FADE_EN (R270, R281). -/
  | cmath5F
  /-- Colour-math microcode of key 0x60: SUB_SUB FADE_EN (R270, R281). -/
  | cmath60
  /-- Colour-math microcode of key 0x61: HALF_MAIN SUB_SUB FADE_EN (R270, R281). -/
  | cmath61
  /-- Colour-math microcode of key 0x62: DOUBLE_MAIN SUB_SUB FADE_EN (R270, R281). -/
  | cmath62
  /-- Colour-math microcode of key 0x63: HALF_MAIN DOUBLE_MAIN SUB_SUB FADE_EN (R270, R281). -/
  | cmath63
  /-- Colour-math microcode of key 0x64: HALF_SUB SUB_SUB FADE_EN (R270, R281). -/
  | cmath64
  /-- Colour-math microcode of key 0x65: HALF_MAIN HALF_SUB SUB_SUB FADE_EN (R270, R281). -/
  | cmath65
  /-- Colour-math microcode of key 0x66: DOUBLE_MAIN HALF_SUB SUB_SUB FADE_EN (R270, R281). -/
  | cmath66
  /-- Colour-math microcode of key 0x67: HALF_MAIN DOUBLE_MAIN HALF_SUB SUB_SUB FADE_EN (R270, R281). -/
  | cmath67
  /-- Colour-math microcode of key 0x68: DOUBLE_SUB SUB_SUB FADE_EN (R270, R281). -/
  | cmath68
  /-- Colour-math microcode of key 0x69: HALF_MAIN DOUBLE_SUB SUB_SUB FADE_EN (R270, R281). -/
  | cmath69
  /-- Colour-math microcode of key 0x6A: DOUBLE_MAIN DOUBLE_SUB SUB_SUB FADE_EN (R270, R281). -/
  | cmath6A
  /-- Colour-math microcode of key 0x6B: HALF_MAIN DOUBLE_MAIN DOUBLE_SUB SUB_SUB FADE_EN (R270, R281). -/
  | cmath6B
  /-- Colour-math microcode of key 0x6C: HALF_SUB DOUBLE_SUB SUB_SUB FADE_EN (R270, R281). -/
  | cmath6C
  /-- Colour-math microcode of key 0x6D: HALF_MAIN HALF_SUB DOUBLE_SUB SUB_SUB FADE_EN (R270, R281). -/
  | cmath6D
  /-- Colour-math microcode of key 0x6E: DOUBLE_MAIN HALF_SUB DOUBLE_SUB SUB_SUB FADE_EN (R270, R281). -/
  | cmath6E
  /-- Colour-math microcode of key 0x6F: HALF_MAIN DOUBLE_MAIN HALF_SUB DOUBLE_SUB SUB_SUB FADE_EN (R270, R281). -/
  | cmath6F
  /-- Colour-math microcode of key 0x70: ADD_SUB SUB_SUB FADE_EN (R270, R281). -/
  | cmath70
  /-- Colour-math microcode of key 0x71: HALF_MAIN ADD_SUB SUB_SUB FADE_EN (R270, R281). -/
  | cmath71
  /-- Colour-math microcode of key 0x72: DOUBLE_MAIN ADD_SUB SUB_SUB FADE_EN (R270, R281). -/
  | cmath72
  /-- Colour-math microcode of key 0x73: HALF_MAIN DOUBLE_MAIN ADD_SUB SUB_SUB FADE_EN (R270, R281). -/
  | cmath73
  /-- Colour-math microcode of key 0x74: HALF_SUB ADD_SUB SUB_SUB FADE_EN (R270, R281). -/
  | cmath74
  /-- Colour-math microcode of key 0x75: HALF_MAIN HALF_SUB ADD_SUB SUB_SUB FADE_EN (R270, R281). -/
  | cmath75
  /-- Colour-math microcode of key 0x76: DOUBLE_MAIN HALF_SUB ADD_SUB SUB_SUB FADE_EN (R270, R281). -/
  | cmath76
  /-- Colour-math microcode of key 0x77: HALF_MAIN DOUBLE_MAIN HALF_SUB ADD_SUB SUB_SUB FADE_EN (R270, R281). -/
  | cmath77
  /-- Colour-math microcode of key 0x78: DOUBLE_SUB ADD_SUB SUB_SUB FADE_EN (R270, R281). -/
  | cmath78
  /-- Colour-math microcode of key 0x79: HALF_MAIN DOUBLE_SUB ADD_SUB SUB_SUB FADE_EN (R270, R281). -/
  | cmath79
  /-- Colour-math microcode of key 0x7A: DOUBLE_MAIN DOUBLE_SUB ADD_SUB SUB_SUB FADE_EN (R270, R281). -/
  | cmath7A
  /-- Colour-math microcode of key 0x7B: HALF_MAIN DOUBLE_MAIN DOUBLE_SUB ADD_SUB SUB_SUB FADE_EN (R270, R281). -/
  | cmath7B
  /-- Colour-math microcode of key 0x7C: HALF_SUB DOUBLE_SUB ADD_SUB SUB_SUB FADE_EN (R270, R281). -/
  | cmath7C
  /-- Colour-math microcode of key 0x7D: HALF_MAIN HALF_SUB DOUBLE_SUB ADD_SUB SUB_SUB FADE_EN (R270, R281). -/
  | cmath7D
  /-- Colour-math microcode of key 0x7E: DOUBLE_MAIN HALF_SUB DOUBLE_SUB ADD_SUB SUB_SUB FADE_EN (R270, R281). -/
  | cmath7E
  /-- Colour-math microcode of key 0x7F: HALF_MAIN DOUBLE_MAIN HALF_SUB DOUBLE_SUB ADD_SUB SUB_SUB FADE_EN (R270, R281). -/
  | cmath7F
  /-- Colour-math microcode of key 0x80: CMATH_EN (R270, R281). -/
  | cmath80
  /-- Colour-math microcode of key 0x81: HALF_MAIN CMATH_EN (R270, R281). -/
  | cmath81
  /-- Colour-math microcode of key 0x82: DOUBLE_MAIN CMATH_EN (R270, R281). -/
  | cmath82
  /-- Colour-math microcode of key 0x83: HALF_MAIN DOUBLE_MAIN CMATH_EN (R270, R281). -/
  | cmath83
  /-- Colour-math microcode of key 0x84: HALF_SUB CMATH_EN (R270, R281). -/
  | cmath84
  /-- Colour-math microcode of key 0x85: HALF_MAIN HALF_SUB CMATH_EN (R270, R281). -/
  | cmath85
  /-- Colour-math microcode of key 0x86: DOUBLE_MAIN HALF_SUB CMATH_EN (R270, R281). -/
  | cmath86
  /-- Colour-math microcode of key 0x87: HALF_MAIN DOUBLE_MAIN HALF_SUB CMATH_EN (R270, R281). -/
  | cmath87
  /-- Colour-math microcode of key 0x88: DOUBLE_SUB CMATH_EN (R270, R281). -/
  | cmath88
  /-- Colour-math microcode of key 0x89: HALF_MAIN DOUBLE_SUB CMATH_EN (R270, R281). -/
  | cmath89
  /-- Colour-math microcode of key 0x8A: DOUBLE_MAIN DOUBLE_SUB CMATH_EN (R270, R281). -/
  | cmath8A
  /-- Colour-math microcode of key 0x8B: HALF_MAIN DOUBLE_MAIN DOUBLE_SUB CMATH_EN (R270, R281). -/
  | cmath8B
  /-- Colour-math microcode of key 0x8C: HALF_SUB DOUBLE_SUB CMATH_EN (R270, R281). -/
  | cmath8C
  /-- Colour-math microcode of key 0x8D: HALF_MAIN HALF_SUB DOUBLE_SUB CMATH_EN (R270, R281). -/
  | cmath8D
  /-- Colour-math microcode of key 0x8E: DOUBLE_MAIN HALF_SUB DOUBLE_SUB CMATH_EN (R270, R281). -/
  | cmath8E
  /-- Colour-math microcode of key 0x8F: HALF_MAIN DOUBLE_MAIN HALF_SUB DOUBLE_SUB CMATH_EN (R270, R281). -/
  | cmath8F
  /-- Colour-math microcode of key 0x90: ADD_SUB CMATH_EN (R270, R281). -/
  | cmath90
  /-- Colour-math microcode of key 0x91: HALF_MAIN ADD_SUB CMATH_EN (R270, R281). -/
  | cmath91
  /-- Colour-math microcode of key 0x92: DOUBLE_MAIN ADD_SUB CMATH_EN (R270, R281). -/
  | cmath92
  /-- Colour-math microcode of key 0x93: HALF_MAIN DOUBLE_MAIN ADD_SUB CMATH_EN (R270, R281). -/
  | cmath93
  /-- Colour-math microcode of key 0x94: HALF_SUB ADD_SUB CMATH_EN (R270, R281). -/
  | cmath94
  /-- Colour-math microcode of key 0x95: HALF_MAIN HALF_SUB ADD_SUB CMATH_EN (R270, R281). -/
  | cmath95
  /-- Colour-math microcode of key 0x96: DOUBLE_MAIN HALF_SUB ADD_SUB CMATH_EN (R270, R281). -/
  | cmath96
  /-- Colour-math microcode of key 0x97: HALF_MAIN DOUBLE_MAIN HALF_SUB ADD_SUB CMATH_EN (R270, R281). -/
  | cmath97
  /-- Colour-math microcode of key 0x98: DOUBLE_SUB ADD_SUB CMATH_EN (R270, R281). -/
  | cmath98
  /-- Colour-math microcode of key 0x99: HALF_MAIN DOUBLE_SUB ADD_SUB CMATH_EN (R270, R281). -/
  | cmath99
  /-- Colour-math microcode of key 0x9A: DOUBLE_MAIN DOUBLE_SUB ADD_SUB CMATH_EN (R270, R281). -/
  | cmath9A
  /-- Colour-math microcode of key 0x9B: HALF_MAIN DOUBLE_MAIN DOUBLE_SUB ADD_SUB CMATH_EN (R270, R281). -/
  | cmath9B
  /-- Colour-math microcode of key 0x9C: HALF_SUB DOUBLE_SUB ADD_SUB CMATH_EN (R270, R281). -/
  | cmath9C
  /-- Colour-math microcode of key 0x9D: HALF_MAIN HALF_SUB DOUBLE_SUB ADD_SUB CMATH_EN (R270, R281). -/
  | cmath9D
  /-- Colour-math microcode of key 0x9E: DOUBLE_MAIN HALF_SUB DOUBLE_SUB ADD_SUB CMATH_EN (R270, R281). -/
  | cmath9E
  /-- Colour-math microcode of key 0x9F: HALF_MAIN DOUBLE_MAIN HALF_SUB DOUBLE_SUB ADD_SUB CMATH_EN (R270, R281). -/
  | cmath9F
  /-- Colour-math microcode of key 0xA0: SUB_SUB CMATH_EN (R270, R281). -/
  | cmathA0
  /-- Colour-math microcode of key 0xA1: HALF_MAIN SUB_SUB CMATH_EN (R270, R281). -/
  | cmathA1
  /-- Colour-math microcode of key 0xA2: DOUBLE_MAIN SUB_SUB CMATH_EN (R270, R281). -/
  | cmathA2
  /-- Colour-math microcode of key 0xA3: HALF_MAIN DOUBLE_MAIN SUB_SUB CMATH_EN (R270, R281). -/
  | cmathA3
  /-- Colour-math microcode of key 0xA4: HALF_SUB SUB_SUB CMATH_EN (R270, R281). -/
  | cmathA4
  /-- Colour-math microcode of key 0xA5: HALF_MAIN HALF_SUB SUB_SUB CMATH_EN (R270, R281). -/
  | cmathA5
  /-- Colour-math microcode of key 0xA6: DOUBLE_MAIN HALF_SUB SUB_SUB CMATH_EN (R270, R281). -/
  | cmathA6
  /-- Colour-math microcode of key 0xA7: HALF_MAIN DOUBLE_MAIN HALF_SUB SUB_SUB CMATH_EN (R270, R281). -/
  | cmathA7
  /-- Colour-math microcode of key 0xA8: DOUBLE_SUB SUB_SUB CMATH_EN (R270, R281). -/
  | cmathA8
  /-- Colour-math microcode of key 0xA9: HALF_MAIN DOUBLE_SUB SUB_SUB CMATH_EN (R270, R281). -/
  | cmathA9
  /-- Colour-math microcode of key 0xAA: DOUBLE_MAIN DOUBLE_SUB SUB_SUB CMATH_EN (R270, R281). -/
  | cmathAA
  /-- Colour-math microcode of key 0xAB: HALF_MAIN DOUBLE_MAIN DOUBLE_SUB SUB_SUB CMATH_EN (R270, R281). -/
  | cmathAB
  /-- Colour-math microcode of key 0xAC: HALF_SUB DOUBLE_SUB SUB_SUB CMATH_EN (R270, R281). -/
  | cmathAC
  /-- Colour-math microcode of key 0xAD: HALF_MAIN HALF_SUB DOUBLE_SUB SUB_SUB CMATH_EN (R270, R281). -/
  | cmathAD
  /-- Colour-math microcode of key 0xAE: DOUBLE_MAIN HALF_SUB DOUBLE_SUB SUB_SUB CMATH_EN (R270, R281). -/
  | cmathAE
  /-- Colour-math microcode of key 0xAF: HALF_MAIN DOUBLE_MAIN HALF_SUB DOUBLE_SUB SUB_SUB CMATH_EN (R270, R281). -/
  | cmathAF
  /-- Colour-math microcode of key 0xB0: ADD_SUB SUB_SUB CMATH_EN (R270, R281). -/
  | cmathB0
  /-- Colour-math microcode of key 0xB1: HALF_MAIN ADD_SUB SUB_SUB CMATH_EN (R270, R281). -/
  | cmathB1
  /-- Colour-math microcode of key 0xB2: DOUBLE_MAIN ADD_SUB SUB_SUB CMATH_EN (R270, R281). -/
  | cmathB2
  /-- Colour-math microcode of key 0xB3: HALF_MAIN DOUBLE_MAIN ADD_SUB SUB_SUB CMATH_EN (R270, R281). -/
  | cmathB3
  /-- Colour-math microcode of key 0xB4: HALF_SUB ADD_SUB SUB_SUB CMATH_EN (R270, R281). -/
  | cmathB4
  /-- Colour-math microcode of key 0xB5: HALF_MAIN HALF_SUB ADD_SUB SUB_SUB CMATH_EN (R270, R281). -/
  | cmathB5
  /-- Colour-math microcode of key 0xB6: DOUBLE_MAIN HALF_SUB ADD_SUB SUB_SUB CMATH_EN (R270, R281). -/
  | cmathB6
  /-- Colour-math microcode of key 0xB7: HALF_MAIN DOUBLE_MAIN HALF_SUB ADD_SUB SUB_SUB CMATH_EN (R270, R281). -/
  | cmathB7
  /-- Colour-math microcode of key 0xB8: DOUBLE_SUB ADD_SUB SUB_SUB CMATH_EN (R270, R281). -/
  | cmathB8
  /-- Colour-math microcode of key 0xB9: HALF_MAIN DOUBLE_SUB ADD_SUB SUB_SUB CMATH_EN (R270, R281). -/
  | cmathB9
  /-- Colour-math microcode of key 0xBA: DOUBLE_MAIN DOUBLE_SUB ADD_SUB SUB_SUB CMATH_EN (R270, R281). -/
  | cmathBA
  /-- Colour-math microcode of key 0xBB: HALF_MAIN DOUBLE_MAIN DOUBLE_SUB ADD_SUB SUB_SUB CMATH_EN (R270, R281). -/
  | cmathBB
  /-- Colour-math microcode of key 0xBC: HALF_SUB DOUBLE_SUB ADD_SUB SUB_SUB CMATH_EN (R270, R281). -/
  | cmathBC
  /-- Colour-math microcode of key 0xBD: HALF_MAIN HALF_SUB DOUBLE_SUB ADD_SUB SUB_SUB CMATH_EN (R270, R281). -/
  | cmathBD
  /-- Colour-math microcode of key 0xBE: DOUBLE_MAIN HALF_SUB DOUBLE_SUB ADD_SUB SUB_SUB CMATH_EN (R270, R281). -/
  | cmathBE
  /-- Colour-math microcode of key 0xBF: HALF_MAIN DOUBLE_MAIN HALF_SUB DOUBLE_SUB ADD_SUB SUB_SUB CMATH_EN (R270, R281). -/
  | cmathBF
  /-- Colour-math microcode of key 0xC0: FADE_EN CMATH_EN (R270, R281). -/
  | cmathC0
  /-- Colour-math microcode of key 0xC1: HALF_MAIN FADE_EN CMATH_EN (R270, R281). -/
  | cmathC1
  /-- Colour-math microcode of key 0xC2: DOUBLE_MAIN FADE_EN CMATH_EN (R270, R281). -/
  | cmathC2
  /-- Colour-math microcode of key 0xC3: HALF_MAIN DOUBLE_MAIN FADE_EN CMATH_EN (R270, R281). -/
  | cmathC3
  /-- Colour-math microcode of key 0xC4: HALF_SUB FADE_EN CMATH_EN (R270, R281). -/
  | cmathC4
  /-- Colour-math microcode of key 0xC5: HALF_MAIN HALF_SUB FADE_EN CMATH_EN (R270, R281). -/
  | cmathC5
  /-- Colour-math microcode of key 0xC6: DOUBLE_MAIN HALF_SUB FADE_EN CMATH_EN (R270, R281). -/
  | cmathC6
  /-- Colour-math microcode of key 0xC7: HALF_MAIN DOUBLE_MAIN HALF_SUB FADE_EN CMATH_EN (R270, R281). -/
  | cmathC7
  /-- Colour-math microcode of key 0xC8: DOUBLE_SUB FADE_EN CMATH_EN (R270, R281). -/
  | cmathC8
  /-- Colour-math microcode of key 0xC9: HALF_MAIN DOUBLE_SUB FADE_EN CMATH_EN (R270, R281). -/
  | cmathC9
  /-- Colour-math microcode of key 0xCA: DOUBLE_MAIN DOUBLE_SUB FADE_EN CMATH_EN (R270, R281). -/
  | cmathCA
  /-- Colour-math microcode of key 0xCB: HALF_MAIN DOUBLE_MAIN DOUBLE_SUB FADE_EN CMATH_EN (R270, R281). -/
  | cmathCB
  /-- Colour-math microcode of key 0xCC: HALF_SUB DOUBLE_SUB FADE_EN CMATH_EN (R270, R281). -/
  | cmathCC
  /-- Colour-math microcode of key 0xCD: HALF_MAIN HALF_SUB DOUBLE_SUB FADE_EN CMATH_EN (R270, R281). -/
  | cmathCD
  /-- Colour-math microcode of key 0xCE: DOUBLE_MAIN HALF_SUB DOUBLE_SUB FADE_EN CMATH_EN (R270, R281). -/
  | cmathCE
  /-- Colour-math microcode of key 0xCF: HALF_MAIN DOUBLE_MAIN HALF_SUB DOUBLE_SUB FADE_EN CMATH_EN (R270, R281). -/
  | cmathCF
  /-- Colour-math microcode of key 0xD0: ADD_SUB FADE_EN CMATH_EN (R270, R281). -/
  | cmathD0
  /-- Colour-math microcode of key 0xD1: HALF_MAIN ADD_SUB FADE_EN CMATH_EN (R270, R281). -/
  | cmathD1
  /-- Colour-math microcode of key 0xD2: DOUBLE_MAIN ADD_SUB FADE_EN CMATH_EN (R270, R281). -/
  | cmathD2
  /-- Colour-math microcode of key 0xD3: HALF_MAIN DOUBLE_MAIN ADD_SUB FADE_EN CMATH_EN (R270, R281). -/
  | cmathD3
  /-- Colour-math microcode of key 0xD4: HALF_SUB ADD_SUB FADE_EN CMATH_EN (R270, R281). -/
  | cmathD4
  /-- Colour-math microcode of key 0xD5: HALF_MAIN HALF_SUB ADD_SUB FADE_EN CMATH_EN (R270, R281). -/
  | cmathD5
  /-- Colour-math microcode of key 0xD6: DOUBLE_MAIN HALF_SUB ADD_SUB FADE_EN CMATH_EN (R270, R281). -/
  | cmathD6
  /-- Colour-math microcode of key 0xD7: HALF_MAIN DOUBLE_MAIN HALF_SUB ADD_SUB FADE_EN CMATH_EN (R270, R281). -/
  | cmathD7
  /-- Colour-math microcode of key 0xD8: DOUBLE_SUB ADD_SUB FADE_EN CMATH_EN (R270, R281). -/
  | cmathD8
  /-- Colour-math microcode of key 0xD9: HALF_MAIN DOUBLE_SUB ADD_SUB FADE_EN CMATH_EN (R270, R281). -/
  | cmathD9
  /-- Colour-math microcode of key 0xDA: DOUBLE_MAIN DOUBLE_SUB ADD_SUB FADE_EN CMATH_EN (R270, R281). -/
  | cmathDA
  /-- Colour-math microcode of key 0xDB: HALF_MAIN DOUBLE_MAIN DOUBLE_SUB ADD_SUB FADE_EN CMATH_EN (R270, R281). -/
  | cmathDB
  /-- Colour-math microcode of key 0xDC: HALF_SUB DOUBLE_SUB ADD_SUB FADE_EN CMATH_EN (R270, R281). -/
  | cmathDC
  /-- Colour-math microcode of key 0xDD: HALF_MAIN HALF_SUB DOUBLE_SUB ADD_SUB FADE_EN CMATH_EN (R270, R281). -/
  | cmathDD
  /-- Colour-math microcode of key 0xDE: DOUBLE_MAIN HALF_SUB DOUBLE_SUB ADD_SUB FADE_EN CMATH_EN (R270, R281). -/
  | cmathDE
  /-- Colour-math microcode of key 0xDF: HALF_MAIN DOUBLE_MAIN HALF_SUB DOUBLE_SUB ADD_SUB FADE_EN CMATH_EN (R270, R281). -/
  | cmathDF
  /-- Colour-math microcode of key 0xE0: SUB_SUB FADE_EN CMATH_EN (R270, R281). -/
  | cmathE0
  /-- Colour-math microcode of key 0xE1: HALF_MAIN SUB_SUB FADE_EN CMATH_EN (R270, R281). -/
  | cmathE1
  /-- Colour-math microcode of key 0xE2: DOUBLE_MAIN SUB_SUB FADE_EN CMATH_EN (R270, R281). -/
  | cmathE2
  /-- Colour-math microcode of key 0xE3: HALF_MAIN DOUBLE_MAIN SUB_SUB FADE_EN CMATH_EN (R270, R281). -/
  | cmathE3
  /-- Colour-math microcode of key 0xE4: HALF_SUB SUB_SUB FADE_EN CMATH_EN (R270, R281). -/
  | cmathE4
  /-- Colour-math microcode of key 0xE5: HALF_MAIN HALF_SUB SUB_SUB FADE_EN CMATH_EN (R270, R281). -/
  | cmathE5
  /-- Colour-math microcode of key 0xE6: DOUBLE_MAIN HALF_SUB SUB_SUB FADE_EN CMATH_EN (R270, R281). -/
  | cmathE6
  /-- Colour-math microcode of key 0xE7: HALF_MAIN DOUBLE_MAIN HALF_SUB SUB_SUB FADE_EN CMATH_EN (R270, R281). -/
  | cmathE7
  /-- Colour-math microcode of key 0xE8: DOUBLE_SUB SUB_SUB FADE_EN CMATH_EN (R270, R281). -/
  | cmathE8
  /-- Colour-math microcode of key 0xE9: HALF_MAIN DOUBLE_SUB SUB_SUB FADE_EN CMATH_EN (R270, R281). -/
  | cmathE9
  /-- Colour-math microcode of key 0xEA: DOUBLE_MAIN DOUBLE_SUB SUB_SUB FADE_EN CMATH_EN (R270, R281). -/
  | cmathEA
  /-- Colour-math microcode of key 0xEB: HALF_MAIN DOUBLE_MAIN DOUBLE_SUB SUB_SUB FADE_EN CMATH_EN (R270, R281). -/
  | cmathEB
  /-- Colour-math microcode of key 0xEC: HALF_SUB DOUBLE_SUB SUB_SUB FADE_EN CMATH_EN (R270, R281). -/
  | cmathEC
  /-- Colour-math microcode of key 0xED: HALF_MAIN HALF_SUB DOUBLE_SUB SUB_SUB FADE_EN CMATH_EN (R270, R281). -/
  | cmathED
  /-- Colour-math microcode of key 0xEE: DOUBLE_MAIN HALF_SUB DOUBLE_SUB SUB_SUB FADE_EN CMATH_EN (R270, R281). -/
  | cmathEE
  /-- Colour-math microcode of key 0xEF: HALF_MAIN DOUBLE_MAIN HALF_SUB DOUBLE_SUB SUB_SUB FADE_EN CMATH_EN (R270, R281). -/
  | cmathEF
  /-- Colour-math microcode of key 0xF0: ADD_SUB SUB_SUB FADE_EN CMATH_EN (R270, R281). -/
  | cmathF0
  /-- Colour-math microcode of key 0xF1: HALF_MAIN ADD_SUB SUB_SUB FADE_EN CMATH_EN (R270, R281). -/
  | cmathF1
  /-- Colour-math microcode of key 0xF2: DOUBLE_MAIN ADD_SUB SUB_SUB FADE_EN CMATH_EN (R270, R281). -/
  | cmathF2
  /-- Colour-math microcode of key 0xF3: HALF_MAIN DOUBLE_MAIN ADD_SUB SUB_SUB FADE_EN CMATH_EN (R270, R281). -/
  | cmathF3
  /-- Colour-math microcode of key 0xF4: HALF_SUB ADD_SUB SUB_SUB FADE_EN CMATH_EN (R270, R281). -/
  | cmathF4
  /-- Colour-math microcode of key 0xF5: HALF_MAIN HALF_SUB ADD_SUB SUB_SUB FADE_EN CMATH_EN (R270, R281). -/
  | cmathF5
  /-- Colour-math microcode of key 0xF6: DOUBLE_MAIN HALF_SUB ADD_SUB SUB_SUB FADE_EN CMATH_EN (R270, R281). -/
  | cmathF6
  /-- Colour-math microcode of key 0xF7: HALF_MAIN DOUBLE_MAIN HALF_SUB ADD_SUB SUB_SUB FADE_EN CMATH_EN (R270, R281). -/
  | cmathF7
  /-- Colour-math microcode of key 0xF8: DOUBLE_SUB ADD_SUB SUB_SUB FADE_EN CMATH_EN (R270, R281). -/
  | cmathF8
  /-- Colour-math microcode of key 0xF9: HALF_MAIN DOUBLE_SUB ADD_SUB SUB_SUB FADE_EN CMATH_EN (R270, R281). -/
  | cmathF9
  /-- Colour-math microcode of key 0xFA: DOUBLE_MAIN DOUBLE_SUB ADD_SUB SUB_SUB FADE_EN CMATH_EN (R270, R281). -/
  | cmathFA
  /-- Colour-math microcode of key 0xFB: HALF_MAIN DOUBLE_MAIN DOUBLE_SUB ADD_SUB SUB_SUB FADE_EN CMATH_EN (R270, R281). -/
  | cmathFB
  /-- Colour-math microcode of key 0xFC: HALF_SUB DOUBLE_SUB ADD_SUB SUB_SUB FADE_EN CMATH_EN (R270, R281). -/
  | cmathFC
  /-- Colour-math microcode of key 0xFD: HALF_MAIN HALF_SUB DOUBLE_SUB ADD_SUB SUB_SUB FADE_EN CMATH_EN (R270, R281). -/
  | cmathFD
  /-- Colour-math microcode of key 0xFE: DOUBLE_MAIN HALF_SUB DOUBLE_SUB ADD_SUB SUB_SUB FADE_EN CMATH_EN (R270, R281). -/
  | cmathFE
  /-- Colour-math microcode of key 0xFF: HALF_MAIN DOUBLE_MAIN HALF_SUB DOUBLE_SUB ADD_SUB SUB_SUB FADE_EN CMATH_EN (R270, R281). -/
  | cmathFF
  /-- Window nibble 0x0: none (R206). -/
  | winnib0
  /-- Window nibble 0x1: A (R206). -/
  | winnib1
  /-- Window nibble 0x2: B (R206). -/
  | winnib2
  /-- Window nibble 0x3: A B (R206). -/
  | winnib3
  /-- Window nibble 0x4: AB (R206). -/
  | winnib4
  /-- Window nibble 0x5: A AB (R206). -/
  | winnib5
  /-- Window nibble 0x6: B AB (R206). -/
  | winnib6
  /-- Window nibble 0x7: A B AB (R206). -/
  | winnib7
  /-- Window nibble 0x8: X (R206). -/
  | winnib8
  /-- Window nibble 0x9: A X (R206). -/
  | winnib9
  /-- Window nibble 0xA: B X (R206). -/
  | winnibA
  /-- Window nibble 0xB: A B X (R206). -/
  | winnibB
  /-- Window nibble 0xC: AB X (R206). -/
  | winnibC
  /-- Window nibble 0xD: A AB X (R206). -/
  | winnibD
  /-- Window nibble 0xE: B AB X (R206). -/
  | winnibE
  /-- Window nibble 0xF: A B AB X (R206). -/
  | winnibF
deriving DecidableEq, Repr

end Sys2Proof
end

