-- ==== Sys2Proof/WellFormed.lean ====
section
/-!
DEFINITION. Which terms of `Instr` stand for an encoding: the tag of a reserved row lies in the range the row covers
(`30_encoding.md` R104, R121). Every other operand takes every value of its type.
-/

namespace Sys2Proof

/-- `lo ≤ tag ≤ hi`: the range of a reserved block (R121). -/
def tagIn (lo hi : Nat) (tag : Half) : Bool :=
  decide (lo ≤ tag.toNat) && decide (tag.toNat ≤ hi)

/-- The instruction stands for an encoding. -/
def Instr.wf : Instr → Bool
  | .hdmaNop _ => true
  | .hdmaWMainColour _ => true
  | .hdmaWSubColour _ => true
  | .hdmaWWin1Left _ => true
  | .hdmaWWin1Right _ => true
  | .hdmaWWin2Left _ => true
  | .hdmaWWin2Right _ => true
  | .hdmaWBgcolWindows _ => true
  | .hdmaWMainFlags _ => true
  | .hdmaWCmathFade _ => true
  | .hdmaWCmathFlags _ => true
  | .hdmaWBg0X _ => true
  | .hdmaWBg0Y _ => true
  | .hdmaWBg0Windows _ => true
  | .hdmaWBg0Flags _ => true
  | .hdmaWBg1X _ => true
  | .hdmaWBg1Y _ => true
  | .hdmaWBg1Windows _ => true
  | .hdmaWBg1Flags _ => true
  | .hdmaWHdmaEnable _ => true
  | .hdmaDisable _ => true
  | .hdmaRsvd21 tag _ => tagIn 21 21 tag
  | .hdmaRsvd22 tag _ => tagIn 22 23 tag
  | .hdmaRsvd24 tag _ => tagIn 24 31 tag
  | .hdmaRsvd32 tag _ => tagIn 32 63 tag
  | .hdmaRsvd64 tag _ => tagIn 64 127 tag
  | .hdmaRsvd128 tag _ => tagIn 128 255 tag
  | .hdmaRsvd256 tag _ => tagIn 256 511 tag
  | .hdmaRsvd512 tag _ => tagIn 512 1023 tag
  | .hdmaRsvd1024 tag _ => tagIn 1024 2047 tag
  | .hdmaRsvd2048 tag _ => tagIn 2048 4095 tag
  | .hdmaRsvd4096 tag _ => tagIn 4096 8191 tag
  | .hdmaRsvd8192 tag _ => tagIn 8192 16383 tag
  | .hdmaRsvd16384 tag _ => tagIn 16384 32767 tag
  | .hdmaRsvd32768 tag _ => tagIn 32768 65535 tag
  | .render _ => true
  | .blank _ => true
  | .sprblit0 _ => true
  | .sprblit1 _ => true
  | .sprblit2 _ => true
  | .sprblit3 _ => true
  | .sprblit4 _ => true
  | .sprblit5 _ => true
  | .sprblit6 _ => true
  | .sprblit7 _ => true
  | .sprblit8 _ => true
  | .sprblit9 _ => true
  | .sprblit10 _ => true
  | .sprblit11 _ => true
  | .sprblit12 _ => true
  | .sprblit13 _ => true
  | .sprblit14 _ => true
  | .sprblit15 _ => true
  | .scan00 => true
  | .scan01 => true
  | .scan02 => true
  | .scan03 => true
  | .scan04 => true
  | .scan05 => true
  | .scan06 => true
  | .scan07 => true
  | .scan08 => true
  | .scan09 => true
  | .scan0A => true
  | .scan0B => true
  | .scan0C => true
  | .scan0D => true
  | .scan0E => true
  | .scan0F => true
  | .scan10 => true
  | .scan11 => true
  | .scan12 => true
  | .scan13 => true
  | .scan14 => true
  | .scan15 => true
  | .scan16 => true
  | .scan17 => true
  | .scan18 => true
  | .scan19 => true
  | .scan1A => true
  | .scan1B => true
  | .scan1C => true
  | .scan1D => true
  | .scan1E => true
  | .scan1F => true
  | .scan20 => true
  | .scan21 => true
  | .scan22 => true
  | .scan23 => true
  | .scan24 => true
  | .scan25 => true
  | .scan26 => true
  | .scan27 => true
  | .scan28 => true
  | .scan29 => true
  | .scan2A => true
  | .scan2B => true
  | .scan2C => true
  | .scan2D => true
  | .scan2E => true
  | .scan2F => true
  | .scan30 => true
  | .scan31 => true
  | .scan32 => true
  | .scan33 => true
  | .scan34 => true
  | .scan35 => true
  | .scan36 => true
  | .scan37 => true
  | .scan38 => true
  | .scan39 => true
  | .scan3A => true
  | .scan3B => true
  | .scan3C => true
  | .scan3D => true
  | .scan3E => true
  | .scan3F => true
  | .cmath00 => true
  | .cmath01 => true
  | .cmath02 => true
  | .cmath03 => true
  | .cmath04 => true
  | .cmath05 => true
  | .cmath06 => true
  | .cmath07 => true
  | .cmath08 => true
  | .cmath09 => true
  | .cmath0A => true
  | .cmath0B => true
  | .cmath0C => true
  | .cmath0D => true
  | .cmath0E => true
  | .cmath0F => true
  | .cmath10 => true
  | .cmath11 => true
  | .cmath12 => true
  | .cmath13 => true
  | .cmath14 => true
  | .cmath15 => true
  | .cmath16 => true
  | .cmath17 => true
  | .cmath18 => true
  | .cmath19 => true
  | .cmath1A => true
  | .cmath1B => true
  | .cmath1C => true
  | .cmath1D => true
  | .cmath1E => true
  | .cmath1F => true
  | .cmath20 => true
  | .cmath21 => true
  | .cmath22 => true
  | .cmath23 => true
  | .cmath24 => true
  | .cmath25 => true
  | .cmath26 => true
  | .cmath27 => true
  | .cmath28 => true
  | .cmath29 => true
  | .cmath2A => true
  | .cmath2B => true
  | .cmath2C => true
  | .cmath2D => true
  | .cmath2E => true
  | .cmath2F => true
  | .cmath30 => true
  | .cmath31 => true
  | .cmath32 => true
  | .cmath33 => true
  | .cmath34 => true
  | .cmath35 => true
  | .cmath36 => true
  | .cmath37 => true
  | .cmath38 => true
  | .cmath39 => true
  | .cmath3A => true
  | .cmath3B => true
  | .cmath3C => true
  | .cmath3D => true
  | .cmath3E => true
  | .cmath3F => true
  | .cmath40 => true
  | .cmath41 => true
  | .cmath42 => true
  | .cmath43 => true
  | .cmath44 => true
  | .cmath45 => true
  | .cmath46 => true
  | .cmath47 => true
  | .cmath48 => true
  | .cmath49 => true
  | .cmath4A => true
  | .cmath4B => true
  | .cmath4C => true
  | .cmath4D => true
  | .cmath4E => true
  | .cmath4F => true
  | .cmath50 => true
  | .cmath51 => true
  | .cmath52 => true
  | .cmath53 => true
  | .cmath54 => true
  | .cmath55 => true
  | .cmath56 => true
  | .cmath57 => true
  | .cmath58 => true
  | .cmath59 => true
  | .cmath5A => true
  | .cmath5B => true
  | .cmath5C => true
  | .cmath5D => true
  | .cmath5E => true
  | .cmath5F => true
  | .cmath60 => true
  | .cmath61 => true
  | .cmath62 => true
  | .cmath63 => true
  | .cmath64 => true
  | .cmath65 => true
  | .cmath66 => true
  | .cmath67 => true
  | .cmath68 => true
  | .cmath69 => true
  | .cmath6A => true
  | .cmath6B => true
  | .cmath6C => true
  | .cmath6D => true
  | .cmath6E => true
  | .cmath6F => true
  | .cmath70 => true
  | .cmath71 => true
  | .cmath72 => true
  | .cmath73 => true
  | .cmath74 => true
  | .cmath75 => true
  | .cmath76 => true
  | .cmath77 => true
  | .cmath78 => true
  | .cmath79 => true
  | .cmath7A => true
  | .cmath7B => true
  | .cmath7C => true
  | .cmath7D => true
  | .cmath7E => true
  | .cmath7F => true
  | .cmath80 => true
  | .cmath81 => true
  | .cmath82 => true
  | .cmath83 => true
  | .cmath84 => true
  | .cmath85 => true
  | .cmath86 => true
  | .cmath87 => true
  | .cmath88 => true
  | .cmath89 => true
  | .cmath8A => true
  | .cmath8B => true
  | .cmath8C => true
  | .cmath8D => true
  | .cmath8E => true
  | .cmath8F => true
  | .cmath90 => true
  | .cmath91 => true
  | .cmath92 => true
  | .cmath93 => true
  | .cmath94 => true
  | .cmath95 => true
  | .cmath96 => true
  | .cmath97 => true
  | .cmath98 => true
  | .cmath99 => true
  | .cmath9A => true
  | .cmath9B => true
  | .cmath9C => true
  | .cmath9D => true
  | .cmath9E => true
  | .cmath9F => true
  | .cmathA0 => true
  | .cmathA1 => true
  | .cmathA2 => true
  | .cmathA3 => true
  | .cmathA4 => true
  | .cmathA5 => true
  | .cmathA6 => true
  | .cmathA7 => true
  | .cmathA8 => true
  | .cmathA9 => true
  | .cmathAA => true
  | .cmathAB => true
  | .cmathAC => true
  | .cmathAD => true
  | .cmathAE => true
  | .cmathAF => true
  | .cmathB0 => true
  | .cmathB1 => true
  | .cmathB2 => true
  | .cmathB3 => true
  | .cmathB4 => true
  | .cmathB5 => true
  | .cmathB6 => true
  | .cmathB7 => true
  | .cmathB8 => true
  | .cmathB9 => true
  | .cmathBA => true
  | .cmathBB => true
  | .cmathBC => true
  | .cmathBD => true
  | .cmathBE => true
  | .cmathBF => true
  | .cmathC0 => true
  | .cmathC1 => true
  | .cmathC2 => true
  | .cmathC3 => true
  | .cmathC4 => true
  | .cmathC5 => true
  | .cmathC6 => true
  | .cmathC7 => true
  | .cmathC8 => true
  | .cmathC9 => true
  | .cmathCA => true
  | .cmathCB => true
  | .cmathCC => true
  | .cmathCD => true
  | .cmathCE => true
  | .cmathCF => true
  | .cmathD0 => true
  | .cmathD1 => true
  | .cmathD2 => true
  | .cmathD3 => true
  | .cmathD4 => true
  | .cmathD5 => true
  | .cmathD6 => true
  | .cmathD7 => true
  | .cmathD8 => true
  | .cmathD9 => true
  | .cmathDA => true
  | .cmathDB => true
  | .cmathDC => true
  | .cmathDD => true
  | .cmathDE => true
  | .cmathDF => true
  | .cmathE0 => true
  | .cmathE1 => true
  | .cmathE2 => true
  | .cmathE3 => true
  | .cmathE4 => true
  | .cmathE5 => true
  | .cmathE6 => true
  | .cmathE7 => true
  | .cmathE8 => true
  | .cmathE9 => true
  | .cmathEA => true
  | .cmathEB => true
  | .cmathEC => true
  | .cmathED => true
  | .cmathEE => true
  | .cmathEF => true
  | .cmathF0 => true
  | .cmathF1 => true
  | .cmathF2 => true
  | .cmathF3 => true
  | .cmathF4 => true
  | .cmathF5 => true
  | .cmathF6 => true
  | .cmathF7 => true
  | .cmathF8 => true
  | .cmathF9 => true
  | .cmathFA => true
  | .cmathFB => true
  | .cmathFC => true
  | .cmathFD => true
  | .cmathFE => true
  | .cmathFF => true
  | .winnib0 => true
  | .winnib1 => true
  | .winnib2 => true
  | .winnib3 => true
  | .winnib4 => true
  | .winnib5 => true
  | .winnib6 => true
  | .winnib7 => true
  | .winnib8 => true
  | .winnib9 => true
  | .winnibA => true
  | .winnibB => true
  | .winnibC => true
  | .winnibD => true
  | .winnibE => true
  | .winnibF => true

end Sys2Proof
end

