-- ==== Sys2Proof/Decode.lean ====
section
/-!
DEFINITION. The decoder, total on every word of every format and refusing by name, the encoder, and the opcode table's
rows (format, mask, pattern) as `spec/opcode_table.json` gives them. Decoding follows `30_encoding.md` R101 to R104,
R111 to R114, R119 and R121.
-/

namespace Sys2Proof

/-- Why a word is no instruction. -/
inductive DecodeError where
  /-- The host writes a register other than x[32] and x[35]: a plain register write, no host command (R119). -/
  | notACommand (n : BitVec 6)
deriving DecidableEq, Repr

/-! ### Fields -/

/-- `e[15:0]`, the command tag (R101). -/
def entryTag (e : Entry) : Half := e.extractLsb' 0 16

/-- `e[31:16]`, the immediate operand (R101, R102). -/
def entryValue (e : Entry) : Half := e.extractLsb' 16 16

/-- `e = (value << 16) | tag` (R103). -/
def entryOf (tag value : Half) : Entry := value ++ tag

/-- The entry that four bytes in little-endian order hold (`20_memory.md` R70). -/
def entryOfBytes (b0 b1 b2 b3 : Byte) : Entry := b3 ++ b2 ++ b1 ++ b0

/-- Byte `k` of an entry, `k` in 0..3 (`20_memory.md` R70). -/
def entryByte (e : Entry) (k : Nat) : Byte := e.extractLsb' (8 * k) 8

/-- `b[5:0]`, the main key (R111). -/
def mainKeyOf (b : Byte) : BitVec 6 := b.extractLsb' 0 6

/-- `flags[5:2]`, the sprite-blit key (R113). -/
def sprKeyOf (b : Byte) : BitVec 4 := b.extractLsb' 2 4

/-- `b[3:0]`, the window nibble (R114). -/
def winNibOf (b : Byte) : BitVec 4 := b.extractLsb' 0 4

/-! ### The HDMA entry -/

/-- The command of a tag (R103), with the reserved blocks of R121. -/
def hdmaInstr (tag value : Half) : Instr :=
  match tag.toNat with
  | 0 => .hdmaNop value
  | 1 => .hdmaWMainColour value
  | 2 => .hdmaWSubColour value
  | 3 => .hdmaWWin1Left value
  | 4 => .hdmaWWin1Right value
  | 5 => .hdmaWWin2Left value
  | 6 => .hdmaWWin2Right value
  | 7 => .hdmaWBgcolWindows value
  | 8 => .hdmaWMainFlags value
  | 9 => .hdmaWCmathFade value
  | 10 => .hdmaWCmathFlags value
  | 11 => .hdmaWBg0X value
  | 12 => .hdmaWBg0Y value
  | 13 => .hdmaWBg0Windows value
  | 14 => .hdmaWBg0Flags value
  | 15 => .hdmaWBg1X value
  | 16 => .hdmaWBg1Y value
  | 17 => .hdmaWBg1Windows value
  | 18 => .hdmaWBg1Flags value
  | 19 => .hdmaWHdmaEnable value
  | 20 => .hdmaDisable value
  | n =>
    if n ≤ 21 then .hdmaRsvd21 tag value else
    if n ≤ 23 then .hdmaRsvd22 tag value else
    if n ≤ 31 then .hdmaRsvd24 tag value else
    if n ≤ 63 then .hdmaRsvd32 tag value else
    if n ≤ 127 then .hdmaRsvd64 tag value else
    if n ≤ 255 then .hdmaRsvd128 tag value else
    if n ≤ 511 then .hdmaRsvd256 tag value else
    if n ≤ 1023 then .hdmaRsvd512 tag value else
    if n ≤ 2047 then .hdmaRsvd1024 tag value else
    if n ≤ 4095 then .hdmaRsvd2048 tag value else
    if n ≤ 8191 then .hdmaRsvd4096 tag value else
    if n ≤ 16383 then .hdmaRsvd8192 tag value else
    if n ≤ 32767 then .hdmaRsvd16384 tag value else
    .hdmaRsvd32768 tag value

/-! ### The key tables, entry `k` the microcode of key `k` -/

/-- The 64 scanline microcodes by key (R111, R221). Keys 0 to 31. -/
def scanTable0 : List Instr :=
  [.scan00, .scan01, .scan02, .scan03, .scan04, .scan05, .scan06, .scan07,
   .scan08, .scan09, .scan0A, .scan0B, .scan0C, .scan0D, .scan0E, .scan0F,
   .scan10, .scan11, .scan12, .scan13, .scan14, .scan15, .scan16, .scan17,
   .scan18, .scan19, .scan1A, .scan1B, .scan1C, .scan1D, .scan1E, .scan1F]

/-- The 64 scanline microcodes by key (R111, R221). Keys 32 to 63. -/
def scanTable1 : List Instr :=
  [.scan20, .scan21, .scan22, .scan23, .scan24, .scan25, .scan26, .scan27,
   .scan28, .scan29, .scan2A, .scan2B, .scan2C, .scan2D, .scan2E, .scan2F,
   .scan30, .scan31, .scan32, .scan33, .scan34, .scan35, .scan36, .scan37,
   .scan38, .scan39, .scan3A, .scan3B, .scan3C, .scan3D, .scan3E, .scan3F]

/-- The 64 scanline microcodes by key (R111, R221). -/
def scanTable : List Instr :=
  scanTable0 ++ scanTable1

/-- The 16 sprite-blit microcodes by key (R113, R259). -/
def sprTable : List (Byte → Instr) :=
  [.sprblit0, .sprblit1, .sprblit2, .sprblit3, .sprblit4, .sprblit5, .sprblit6, .sprblit7,
   .sprblit8, .sprblit9, .sprblit10, .sprblit11, .sprblit12, .sprblit13, .sprblit14, .sprblit15]

/-- The 256 colour-math microcodes by key (R112, R281). Keys 0 to 31. -/
def cmathTable0 : List Instr :=
  [.cmath00, .cmath01, .cmath02, .cmath03, .cmath04, .cmath05, .cmath06, .cmath07,
   .cmath08, .cmath09, .cmath0A, .cmath0B, .cmath0C, .cmath0D, .cmath0E, .cmath0F,
   .cmath10, .cmath11, .cmath12, .cmath13, .cmath14, .cmath15, .cmath16, .cmath17,
   .cmath18, .cmath19, .cmath1A, .cmath1B, .cmath1C, .cmath1D, .cmath1E, .cmath1F]

/-- The 256 colour-math microcodes by key (R112, R281). Keys 32 to 63. -/
def cmathTable1 : List Instr :=
  [.cmath20, .cmath21, .cmath22, .cmath23, .cmath24, .cmath25, .cmath26, .cmath27,
   .cmath28, .cmath29, .cmath2A, .cmath2B, .cmath2C, .cmath2D, .cmath2E, .cmath2F,
   .cmath30, .cmath31, .cmath32, .cmath33, .cmath34, .cmath35, .cmath36, .cmath37,
   .cmath38, .cmath39, .cmath3A, .cmath3B, .cmath3C, .cmath3D, .cmath3E, .cmath3F]

/-- The 256 colour-math microcodes by key (R112, R281). Keys 64 to 95. -/
def cmathTable2 : List Instr :=
  [.cmath40, .cmath41, .cmath42, .cmath43, .cmath44, .cmath45, .cmath46, .cmath47,
   .cmath48, .cmath49, .cmath4A, .cmath4B, .cmath4C, .cmath4D, .cmath4E, .cmath4F,
   .cmath50, .cmath51, .cmath52, .cmath53, .cmath54, .cmath55, .cmath56, .cmath57,
   .cmath58, .cmath59, .cmath5A, .cmath5B, .cmath5C, .cmath5D, .cmath5E, .cmath5F]

/-- The 256 colour-math microcodes by key (R112, R281). Keys 96 to 127. -/
def cmathTable3 : List Instr :=
  [.cmath60, .cmath61, .cmath62, .cmath63, .cmath64, .cmath65, .cmath66, .cmath67,
   .cmath68, .cmath69, .cmath6A, .cmath6B, .cmath6C, .cmath6D, .cmath6E, .cmath6F,
   .cmath70, .cmath71, .cmath72, .cmath73, .cmath74, .cmath75, .cmath76, .cmath77,
   .cmath78, .cmath79, .cmath7A, .cmath7B, .cmath7C, .cmath7D, .cmath7E, .cmath7F]

/-- The 256 colour-math microcodes by key (R112, R281). Keys 128 to 159. -/
def cmathTable4 : List Instr :=
  [.cmath80, .cmath81, .cmath82, .cmath83, .cmath84, .cmath85, .cmath86, .cmath87,
   .cmath88, .cmath89, .cmath8A, .cmath8B, .cmath8C, .cmath8D, .cmath8E, .cmath8F,
   .cmath90, .cmath91, .cmath92, .cmath93, .cmath94, .cmath95, .cmath96, .cmath97,
   .cmath98, .cmath99, .cmath9A, .cmath9B, .cmath9C, .cmath9D, .cmath9E, .cmath9F]

/-- The 256 colour-math microcodes by key (R112, R281). Keys 160 to 191. -/
def cmathTable5 : List Instr :=
  [.cmathA0, .cmathA1, .cmathA2, .cmathA3, .cmathA4, .cmathA5, .cmathA6, .cmathA7,
   .cmathA8, .cmathA9, .cmathAA, .cmathAB, .cmathAC, .cmathAD, .cmathAE, .cmathAF,
   .cmathB0, .cmathB1, .cmathB2, .cmathB3, .cmathB4, .cmathB5, .cmathB6, .cmathB7,
   .cmathB8, .cmathB9, .cmathBA, .cmathBB, .cmathBC, .cmathBD, .cmathBE, .cmathBF]

/-- The 256 colour-math microcodes by key (R112, R281). Keys 192 to 223. -/
def cmathTable6 : List Instr :=
  [.cmathC0, .cmathC1, .cmathC2, .cmathC3, .cmathC4, .cmathC5, .cmathC6, .cmathC7,
   .cmathC8, .cmathC9, .cmathCA, .cmathCB, .cmathCC, .cmathCD, .cmathCE, .cmathCF,
   .cmathD0, .cmathD1, .cmathD2, .cmathD3, .cmathD4, .cmathD5, .cmathD6, .cmathD7,
   .cmathD8, .cmathD9, .cmathDA, .cmathDB, .cmathDC, .cmathDD, .cmathDE, .cmathDF]

/-- The 256 colour-math microcodes by key (R112, R281). Keys 224 to 255. -/
def cmathTable7 : List Instr :=
  [.cmathE0, .cmathE1, .cmathE2, .cmathE3, .cmathE4, .cmathE5, .cmathE6, .cmathE7,
   .cmathE8, .cmathE9, .cmathEA, .cmathEB, .cmathEC, .cmathED, .cmathEE, .cmathEF,
   .cmathF0, .cmathF1, .cmathF2, .cmathF3, .cmathF4, .cmathF5, .cmathF6, .cmathF7,
   .cmathF8, .cmathF9, .cmathFA, .cmathFB, .cmathFC, .cmathFD, .cmathFE, .cmathFF]

/-- The 256 colour-math microcodes by key (R112, R281). -/
def cmathTable : List Instr :=
  cmathTable0 ++ cmathTable1 ++ cmathTable2 ++ cmathTable3 ++ cmathTable4 ++ cmathTable5 ++ cmathTable6 ++ cmathTable7

/-- The 16 window nibble functions by nibble (R114, R206). -/
def winTable : List Instr :=
  [.winnib0, .winnib1, .winnib2, .winnib3, .winnib4, .winnib5, .winnib6, .winnib7,
   .winnib8, .winnib9, .winnibA, .winnibB, .winnibC, .winnibD, .winnibE, .winnibF]

/-! ### The decoder -/

/-- The instruction that a word stands for. Total: only a host write to a register that is no command is refused. -/
def decode : Code → Except DecodeError Instr
  | .hdma e => .ok (hdmaInstr (entryTag e) (entryValue e))
  | .mainKey b => .ok (scanTable.getD (mainKeyOf b).toNat .scan00)
  | .sprKey i b => .ok (sprTable.getD (sprKeyOf b).toNat .sprblit0 i)
  | .cmathKey b => .ok (cmathTable.getD b.toNat .cmath00)
  | .winNib b => .ok (winTable.getD (winNibOf b).toNat .winnib0)
  | .hostWrite n v =>
    if n = 35#6 then .ok (.render v)
    else if n = 32#6 then .ok (.blank v)
    else .error (.notACommand n)

/-- The word of a bit pattern of `spec/opcode_table.json`, from its length in bits. The table's rows overlap as bits and
only their lengths tell them apart: four bits are a window nibble, six a main key, eight a colour-math key, more an HDMA
entry whose missing high bits are 0, laid out as four little-endian bytes (`20_memory.md` R70). Log 1. -/
def tableCode (nbits w : Nat) : Code :=
  if nbits ≤ 4 then .winNib (BitVec.ofNat 8 w)
  else if nbits ≤ 6 then .mainKey (BitVec.ofNat 8 w)
  else if nbits ≤ 8 then .cmathKey (BitVec.ofNat 8 w)
  else
    let e : Entry := BitVec.ofNat 32 w
    .hdma (entryOfBytes (entryByte e 0) (entryByte e 1) (entryByte e 2) (entryByte e 3))

/-- The instruction the decoder reads from a word numbered as `spec/opcode_table.json` numbers it. -/
def decodeTableWord (nbits w : Nat) : Option Instr :=
  match decode (tableCode nbits w) with
  | .ok i => some i
  | .error _ => none

/-! ### The encoder -/

/-- The word of an instruction; ignored bits of a key byte are 0. -/
def encode : Instr → Code
  | .hdmaNop value => .hdma (entryOf 0#16 value)
  | .hdmaWMainColour value => .hdma (entryOf 1#16 value)
  | .hdmaWSubColour value => .hdma (entryOf 2#16 value)
  | .hdmaWWin1Left value => .hdma (entryOf 3#16 value)
  | .hdmaWWin1Right value => .hdma (entryOf 4#16 value)
  | .hdmaWWin2Left value => .hdma (entryOf 5#16 value)
  | .hdmaWWin2Right value => .hdma (entryOf 6#16 value)
  | .hdmaWBgcolWindows value => .hdma (entryOf 7#16 value)
  | .hdmaWMainFlags value => .hdma (entryOf 8#16 value)
  | .hdmaWCmathFade value => .hdma (entryOf 9#16 value)
  | .hdmaWCmathFlags value => .hdma (entryOf 10#16 value)
  | .hdmaWBg0X value => .hdma (entryOf 11#16 value)
  | .hdmaWBg0Y value => .hdma (entryOf 12#16 value)
  | .hdmaWBg0Windows value => .hdma (entryOf 13#16 value)
  | .hdmaWBg0Flags value => .hdma (entryOf 14#16 value)
  | .hdmaWBg1X value => .hdma (entryOf 15#16 value)
  | .hdmaWBg1Y value => .hdma (entryOf 16#16 value)
  | .hdmaWBg1Windows value => .hdma (entryOf 17#16 value)
  | .hdmaWBg1Flags value => .hdma (entryOf 18#16 value)
  | .hdmaWHdmaEnable value => .hdma (entryOf 19#16 value)
  | .hdmaDisable value => .hdma (entryOf 20#16 value)
  | .hdmaRsvd21 tag value => .hdma (entryOf tag value)
  | .hdmaRsvd22 tag value => .hdma (entryOf tag value)
  | .hdmaRsvd24 tag value => .hdma (entryOf tag value)
  | .hdmaRsvd32 tag value => .hdma (entryOf tag value)
  | .hdmaRsvd64 tag value => .hdma (entryOf tag value)
  | .hdmaRsvd128 tag value => .hdma (entryOf tag value)
  | .hdmaRsvd256 tag value => .hdma (entryOf tag value)
  | .hdmaRsvd512 tag value => .hdma (entryOf tag value)
  | .hdmaRsvd1024 tag value => .hdma (entryOf tag value)
  | .hdmaRsvd2048 tag value => .hdma (entryOf tag value)
  | .hdmaRsvd4096 tag value => .hdma (entryOf tag value)
  | .hdmaRsvd8192 tag value => .hdma (entryOf tag value)
  | .hdmaRsvd16384 tag value => .hdma (entryOf tag value)
  | .hdmaRsvd32768 tag value => .hdma (entryOf tag value)
  | .render v => .hostWrite 35#6 v
  | .blank v => .hostWrite 32#6 v
  | .sprblit0 i => .sprKey i 0x00#8
  | .sprblit1 i => .sprKey i 0x04#8
  | .sprblit2 i => .sprKey i 0x08#8
  | .sprblit3 i => .sprKey i 0x0C#8
  | .sprblit4 i => .sprKey i 0x10#8
  | .sprblit5 i => .sprKey i 0x14#8
  | .sprblit6 i => .sprKey i 0x18#8
  | .sprblit7 i => .sprKey i 0x1C#8
  | .sprblit8 i => .sprKey i 0x20#8
  | .sprblit9 i => .sprKey i 0x24#8
  | .sprblit10 i => .sprKey i 0x28#8
  | .sprblit11 i => .sprKey i 0x2C#8
  | .sprblit12 i => .sprKey i 0x30#8
  | .sprblit13 i => .sprKey i 0x34#8
  | .sprblit14 i => .sprKey i 0x38#8
  | .sprblit15 i => .sprKey i 0x3C#8
  | .scan00 => .mainKey 0x00#8
  | .scan01 => .mainKey 0x01#8
  | .scan02 => .mainKey 0x02#8
  | .scan03 => .mainKey 0x03#8
  | .scan04 => .mainKey 0x04#8
  | .scan05 => .mainKey 0x05#8
  | .scan06 => .mainKey 0x06#8
  | .scan07 => .mainKey 0x07#8
  | .scan08 => .mainKey 0x08#8
  | .scan09 => .mainKey 0x09#8
  | .scan0A => .mainKey 0x0A#8
  | .scan0B => .mainKey 0x0B#8
  | .scan0C => .mainKey 0x0C#8
  | .scan0D => .mainKey 0x0D#8
  | .scan0E => .mainKey 0x0E#8
  | .scan0F => .mainKey 0x0F#8
  | .scan10 => .mainKey 0x10#8
  | .scan11 => .mainKey 0x11#8
  | .scan12 => .mainKey 0x12#8
  | .scan13 => .mainKey 0x13#8
  | .scan14 => .mainKey 0x14#8
  | .scan15 => .mainKey 0x15#8
  | .scan16 => .mainKey 0x16#8
  | .scan17 => .mainKey 0x17#8
  | .scan18 => .mainKey 0x18#8
  | .scan19 => .mainKey 0x19#8
  | .scan1A => .mainKey 0x1A#8
  | .scan1B => .mainKey 0x1B#8
  | .scan1C => .mainKey 0x1C#8
  | .scan1D => .mainKey 0x1D#8
  | .scan1E => .mainKey 0x1E#8
  | .scan1F => .mainKey 0x1F#8
  | .scan20 => .mainKey 0x20#8
  | .scan21 => .mainKey 0x21#8
  | .scan22 => .mainKey 0x22#8
  | .scan23 => .mainKey 0x23#8
  | .scan24 => .mainKey 0x24#8
  | .scan25 => .mainKey 0x25#8
  | .scan26 => .mainKey 0x26#8
  | .scan27 => .mainKey 0x27#8
  | .scan28 => .mainKey 0x28#8
  | .scan29 => .mainKey 0x29#8
  | .scan2A => .mainKey 0x2A#8
  | .scan2B => .mainKey 0x2B#8
  | .scan2C => .mainKey 0x2C#8
  | .scan2D => .mainKey 0x2D#8
  | .scan2E => .mainKey 0x2E#8
  | .scan2F => .mainKey 0x2F#8
  | .scan30 => .mainKey 0x30#8
  | .scan31 => .mainKey 0x31#8
  | .scan32 => .mainKey 0x32#8
  | .scan33 => .mainKey 0x33#8
  | .scan34 => .mainKey 0x34#8
  | .scan35 => .mainKey 0x35#8
  | .scan36 => .mainKey 0x36#8
  | .scan37 => .mainKey 0x37#8
  | .scan38 => .mainKey 0x38#8
  | .scan39 => .mainKey 0x39#8
  | .scan3A => .mainKey 0x3A#8
  | .scan3B => .mainKey 0x3B#8
  | .scan3C => .mainKey 0x3C#8
  | .scan3D => .mainKey 0x3D#8
  | .scan3E => .mainKey 0x3E#8
  | .scan3F => .mainKey 0x3F#8
  | .cmath00 => .cmathKey 0x00#8
  | .cmath01 => .cmathKey 0x01#8
  | .cmath02 => .cmathKey 0x02#8
  | .cmath03 => .cmathKey 0x03#8
  | .cmath04 => .cmathKey 0x04#8
  | .cmath05 => .cmathKey 0x05#8
  | .cmath06 => .cmathKey 0x06#8
  | .cmath07 => .cmathKey 0x07#8
  | .cmath08 => .cmathKey 0x08#8
  | .cmath09 => .cmathKey 0x09#8
  | .cmath0A => .cmathKey 0x0A#8
  | .cmath0B => .cmathKey 0x0B#8
  | .cmath0C => .cmathKey 0x0C#8
  | .cmath0D => .cmathKey 0x0D#8
  | .cmath0E => .cmathKey 0x0E#8
  | .cmath0F => .cmathKey 0x0F#8
  | .cmath10 => .cmathKey 0x10#8
  | .cmath11 => .cmathKey 0x11#8
  | .cmath12 => .cmathKey 0x12#8
  | .cmath13 => .cmathKey 0x13#8
  | .cmath14 => .cmathKey 0x14#8
  | .cmath15 => .cmathKey 0x15#8
  | .cmath16 => .cmathKey 0x16#8
  | .cmath17 => .cmathKey 0x17#8
  | .cmath18 => .cmathKey 0x18#8
  | .cmath19 => .cmathKey 0x19#8
  | .cmath1A => .cmathKey 0x1A#8
  | .cmath1B => .cmathKey 0x1B#8
  | .cmath1C => .cmathKey 0x1C#8
  | .cmath1D => .cmathKey 0x1D#8
  | .cmath1E => .cmathKey 0x1E#8
  | .cmath1F => .cmathKey 0x1F#8
  | .cmath20 => .cmathKey 0x20#8
  | .cmath21 => .cmathKey 0x21#8
  | .cmath22 => .cmathKey 0x22#8
  | .cmath23 => .cmathKey 0x23#8
  | .cmath24 => .cmathKey 0x24#8
  | .cmath25 => .cmathKey 0x25#8
  | .cmath26 => .cmathKey 0x26#8
  | .cmath27 => .cmathKey 0x27#8
  | .cmath28 => .cmathKey 0x28#8
  | .cmath29 => .cmathKey 0x29#8
  | .cmath2A => .cmathKey 0x2A#8
  | .cmath2B => .cmathKey 0x2B#8
  | .cmath2C => .cmathKey 0x2C#8
  | .cmath2D => .cmathKey 0x2D#8
  | .cmath2E => .cmathKey 0x2E#8
  | .cmath2F => .cmathKey 0x2F#8
  | .cmath30 => .cmathKey 0x30#8
  | .cmath31 => .cmathKey 0x31#8
  | .cmath32 => .cmathKey 0x32#8
  | .cmath33 => .cmathKey 0x33#8
  | .cmath34 => .cmathKey 0x34#8
  | .cmath35 => .cmathKey 0x35#8
  | .cmath36 => .cmathKey 0x36#8
  | .cmath37 => .cmathKey 0x37#8
  | .cmath38 => .cmathKey 0x38#8
  | .cmath39 => .cmathKey 0x39#8
  | .cmath3A => .cmathKey 0x3A#8
  | .cmath3B => .cmathKey 0x3B#8
  | .cmath3C => .cmathKey 0x3C#8
  | .cmath3D => .cmathKey 0x3D#8
  | .cmath3E => .cmathKey 0x3E#8
  | .cmath3F => .cmathKey 0x3F#8
  | .cmath40 => .cmathKey 0x40#8
  | .cmath41 => .cmathKey 0x41#8
  | .cmath42 => .cmathKey 0x42#8
  | .cmath43 => .cmathKey 0x43#8
  | .cmath44 => .cmathKey 0x44#8
  | .cmath45 => .cmathKey 0x45#8
  | .cmath46 => .cmathKey 0x46#8
  | .cmath47 => .cmathKey 0x47#8
  | .cmath48 => .cmathKey 0x48#8
  | .cmath49 => .cmathKey 0x49#8
  | .cmath4A => .cmathKey 0x4A#8
  | .cmath4B => .cmathKey 0x4B#8
  | .cmath4C => .cmathKey 0x4C#8
  | .cmath4D => .cmathKey 0x4D#8
  | .cmath4E => .cmathKey 0x4E#8
  | .cmath4F => .cmathKey 0x4F#8
  | .cmath50 => .cmathKey 0x50#8
  | .cmath51 => .cmathKey 0x51#8
  | .cmath52 => .cmathKey 0x52#8
  | .cmath53 => .cmathKey 0x53#8
  | .cmath54 => .cmathKey 0x54#8
  | .cmath55 => .cmathKey 0x55#8
  | .cmath56 => .cmathKey 0x56#8
  | .cmath57 => .cmathKey 0x57#8
  | .cmath58 => .cmathKey 0x58#8
  | .cmath59 => .cmathKey 0x59#8
  | .cmath5A => .cmathKey 0x5A#8
  | .cmath5B => .cmathKey 0x5B#8
  | .cmath5C => .cmathKey 0x5C#8
  | .cmath5D => .cmathKey 0x5D#8
  | .cmath5E => .cmathKey 0x5E#8
  | .cmath5F => .cmathKey 0x5F#8
  | .cmath60 => .cmathKey 0x60#8
  | .cmath61 => .cmathKey 0x61#8
  | .cmath62 => .cmathKey 0x62#8
  | .cmath63 => .cmathKey 0x63#8
  | .cmath64 => .cmathKey 0x64#8
  | .cmath65 => .cmathKey 0x65#8
  | .cmath66 => .cmathKey 0x66#8
  | .cmath67 => .cmathKey 0x67#8
  | .cmath68 => .cmathKey 0x68#8
  | .cmath69 => .cmathKey 0x69#8
  | .cmath6A => .cmathKey 0x6A#8
  | .cmath6B => .cmathKey 0x6B#8
  | .cmath6C => .cmathKey 0x6C#8
  | .cmath6D => .cmathKey 0x6D#8
  | .cmath6E => .cmathKey 0x6E#8
  | .cmath6F => .cmathKey 0x6F#8
  | .cmath70 => .cmathKey 0x70#8
  | .cmath71 => .cmathKey 0x71#8
  | .cmath72 => .cmathKey 0x72#8
  | .cmath73 => .cmathKey 0x73#8
  | .cmath74 => .cmathKey 0x74#8
  | .cmath75 => .cmathKey 0x75#8
  | .cmath76 => .cmathKey 0x76#8
  | .cmath77 => .cmathKey 0x77#8
  | .cmath78 => .cmathKey 0x78#8
  | .cmath79 => .cmathKey 0x79#8
  | .cmath7A => .cmathKey 0x7A#8
  | .cmath7B => .cmathKey 0x7B#8
  | .cmath7C => .cmathKey 0x7C#8
  | .cmath7D => .cmathKey 0x7D#8
  | .cmath7E => .cmathKey 0x7E#8
  | .cmath7F => .cmathKey 0x7F#8
  | .cmath80 => .cmathKey 0x80#8
  | .cmath81 => .cmathKey 0x81#8
  | .cmath82 => .cmathKey 0x82#8
  | .cmath83 => .cmathKey 0x83#8
  | .cmath84 => .cmathKey 0x84#8
  | .cmath85 => .cmathKey 0x85#8
  | .cmath86 => .cmathKey 0x86#8
  | .cmath87 => .cmathKey 0x87#8
  | .cmath88 => .cmathKey 0x88#8
  | .cmath89 => .cmathKey 0x89#8
  | .cmath8A => .cmathKey 0x8A#8
  | .cmath8B => .cmathKey 0x8B#8
  | .cmath8C => .cmathKey 0x8C#8
  | .cmath8D => .cmathKey 0x8D#8
  | .cmath8E => .cmathKey 0x8E#8
  | .cmath8F => .cmathKey 0x8F#8
  | .cmath90 => .cmathKey 0x90#8
  | .cmath91 => .cmathKey 0x91#8
  | .cmath92 => .cmathKey 0x92#8
  | .cmath93 => .cmathKey 0x93#8
  | .cmath94 => .cmathKey 0x94#8
  | .cmath95 => .cmathKey 0x95#8
  | .cmath96 => .cmathKey 0x96#8
  | .cmath97 => .cmathKey 0x97#8
  | .cmath98 => .cmathKey 0x98#8
  | .cmath99 => .cmathKey 0x99#8
  | .cmath9A => .cmathKey 0x9A#8
  | .cmath9B => .cmathKey 0x9B#8
  | .cmath9C => .cmathKey 0x9C#8
  | .cmath9D => .cmathKey 0x9D#8
  | .cmath9E => .cmathKey 0x9E#8
  | .cmath9F => .cmathKey 0x9F#8
  | .cmathA0 => .cmathKey 0xA0#8
  | .cmathA1 => .cmathKey 0xA1#8
  | .cmathA2 => .cmathKey 0xA2#8
  | .cmathA3 => .cmathKey 0xA3#8
  | .cmathA4 => .cmathKey 0xA4#8
  | .cmathA5 => .cmathKey 0xA5#8
  | .cmathA6 => .cmathKey 0xA6#8
  | .cmathA7 => .cmathKey 0xA7#8
  | .cmathA8 => .cmathKey 0xA8#8
  | .cmathA9 => .cmathKey 0xA9#8
  | .cmathAA => .cmathKey 0xAA#8
  | .cmathAB => .cmathKey 0xAB#8
  | .cmathAC => .cmathKey 0xAC#8
  | .cmathAD => .cmathKey 0xAD#8
  | .cmathAE => .cmathKey 0xAE#8
  | .cmathAF => .cmathKey 0xAF#8
  | .cmathB0 => .cmathKey 0xB0#8
  | .cmathB1 => .cmathKey 0xB1#8
  | .cmathB2 => .cmathKey 0xB2#8
  | .cmathB3 => .cmathKey 0xB3#8
  | .cmathB4 => .cmathKey 0xB4#8
  | .cmathB5 => .cmathKey 0xB5#8
  | .cmathB6 => .cmathKey 0xB6#8
  | .cmathB7 => .cmathKey 0xB7#8
  | .cmathB8 => .cmathKey 0xB8#8
  | .cmathB9 => .cmathKey 0xB9#8
  | .cmathBA => .cmathKey 0xBA#8
  | .cmathBB => .cmathKey 0xBB#8
  | .cmathBC => .cmathKey 0xBC#8
  | .cmathBD => .cmathKey 0xBD#8
  | .cmathBE => .cmathKey 0xBE#8
  | .cmathBF => .cmathKey 0xBF#8
  | .cmathC0 => .cmathKey 0xC0#8
  | .cmathC1 => .cmathKey 0xC1#8
  | .cmathC2 => .cmathKey 0xC2#8
  | .cmathC3 => .cmathKey 0xC3#8
  | .cmathC4 => .cmathKey 0xC4#8
  | .cmathC5 => .cmathKey 0xC5#8
  | .cmathC6 => .cmathKey 0xC6#8
  | .cmathC7 => .cmathKey 0xC7#8
  | .cmathC8 => .cmathKey 0xC8#8
  | .cmathC9 => .cmathKey 0xC9#8
  | .cmathCA => .cmathKey 0xCA#8
  | .cmathCB => .cmathKey 0xCB#8
  | .cmathCC => .cmathKey 0xCC#8
  | .cmathCD => .cmathKey 0xCD#8
  | .cmathCE => .cmathKey 0xCE#8
  | .cmathCF => .cmathKey 0xCF#8
  | .cmathD0 => .cmathKey 0xD0#8
  | .cmathD1 => .cmathKey 0xD1#8
  | .cmathD2 => .cmathKey 0xD2#8
  | .cmathD3 => .cmathKey 0xD3#8
  | .cmathD4 => .cmathKey 0xD4#8
  | .cmathD5 => .cmathKey 0xD5#8
  | .cmathD6 => .cmathKey 0xD6#8
  | .cmathD7 => .cmathKey 0xD7#8
  | .cmathD8 => .cmathKey 0xD8#8
  | .cmathD9 => .cmathKey 0xD9#8
  | .cmathDA => .cmathKey 0xDA#8
  | .cmathDB => .cmathKey 0xDB#8
  | .cmathDC => .cmathKey 0xDC#8
  | .cmathDD => .cmathKey 0xDD#8
  | .cmathDE => .cmathKey 0xDE#8
  | .cmathDF => .cmathKey 0xDF#8
  | .cmathE0 => .cmathKey 0xE0#8
  | .cmathE1 => .cmathKey 0xE1#8
  | .cmathE2 => .cmathKey 0xE2#8
  | .cmathE3 => .cmathKey 0xE3#8
  | .cmathE4 => .cmathKey 0xE4#8
  | .cmathE5 => .cmathKey 0xE5#8
  | .cmathE6 => .cmathKey 0xE6#8
  | .cmathE7 => .cmathKey 0xE7#8
  | .cmathE8 => .cmathKey 0xE8#8
  | .cmathE9 => .cmathKey 0xE9#8
  | .cmathEA => .cmathKey 0xEA#8
  | .cmathEB => .cmathKey 0xEB#8
  | .cmathEC => .cmathKey 0xEC#8
  | .cmathED => .cmathKey 0xED#8
  | .cmathEE => .cmathKey 0xEE#8
  | .cmathEF => .cmathKey 0xEF#8
  | .cmathF0 => .cmathKey 0xF0#8
  | .cmathF1 => .cmathKey 0xF1#8
  | .cmathF2 => .cmathKey 0xF2#8
  | .cmathF3 => .cmathKey 0xF3#8
  | .cmathF4 => .cmathKey 0xF4#8
  | .cmathF5 => .cmathKey 0xF5#8
  | .cmathF6 => .cmathKey 0xF6#8
  | .cmathF7 => .cmathKey 0xF7#8
  | .cmathF8 => .cmathKey 0xF8#8
  | .cmathF9 => .cmathKey 0xF9#8
  | .cmathFA => .cmathKey 0xFA#8
  | .cmathFB => .cmathKey 0xFB#8
  | .cmathFC => .cmathKey 0xFC#8
  | .cmathFD => .cmathKey 0xFD#8
  | .cmathFE => .cmathKey 0xFE#8
  | .cmathFF => .cmathKey 0xFF#8
  | .winnib0 => .winNib 0x00#8
  | .winnib1 => .winNib 0x01#8
  | .winnib2 => .winNib 0x02#8
  | .winnib3 => .winNib 0x03#8
  | .winnib4 => .winNib 0x04#8
  | .winnib5 => .winNib 0x05#8
  | .winnib6 => .winNib 0x06#8
  | .winnib7 => .winNib 0x07#8
  | .winnib8 => .winNib 0x08#8
  | .winnib9 => .winNib 0x09#8
  | .winnibA => .winNib 0x0A#8
  | .winnibB => .winNib 0x0B#8
  | .winnibC => .winNib 0x0C#8
  | .winnibD => .winNib 0x0D#8
  | .winnibE => .winNib 0x0E#8
  | .winnibF => .winNib 0x0F#8

/-! ### The opcode table's rows -/

/-- A row of the opcode table: a word of this format is the row's when its bits under `mask` are `pattern` (R121). -/
structure OpcodeRow where
  format : Format
  mask : Entry
  pattern : Entry
deriving DecidableEq, Repr

/-- The format of a word. -/
def Code.format : Code → Format
  | .hdma _ => .hdmaEntry
  | .mainKey _ => .mainKey
  | .sprKey _ _ => .sprKey
  | .cmathKey _ => .cmathKey
  | .winNib _ => .winNib
  | .hostWrite _ _ => .hostWrite

/-- The bits of a word that the table's mask and pattern are about. -/
def Code.bits : Code → Entry
  | .hdma e => e
  | .mainKey b => b.zeroExtend 32
  | .sprKey _ b => b.zeroExtend 32
  | .cmathKey b => b.zeroExtend 32
  | .winNib b => b.zeroExtend 32
  | .hostWrite _ v => v.zeroExtend 32

/-- The row of `spec/opcode_table.json` an instruction belongs to. -/
def Instr.row : Instr → OpcodeRow
  | .hdmaNop _ => ⟨.hdmaEntry, 0xFFFF#32, 0x0000#32⟩
  | .hdmaWMainColour _ => ⟨.hdmaEntry, 0xFFFF#32, 0x0001#32⟩
  | .hdmaWSubColour _ => ⟨.hdmaEntry, 0xFFFF#32, 0x0002#32⟩
  | .hdmaWWin1Left _ => ⟨.hdmaEntry, 0xFFFF#32, 0x0003#32⟩
  | .hdmaWWin1Right _ => ⟨.hdmaEntry, 0xFFFF#32, 0x0004#32⟩
  | .hdmaWWin2Left _ => ⟨.hdmaEntry, 0xFFFF#32, 0x0005#32⟩
  | .hdmaWWin2Right _ => ⟨.hdmaEntry, 0xFFFF#32, 0x0006#32⟩
  | .hdmaWBgcolWindows _ => ⟨.hdmaEntry, 0xFFFF#32, 0x0007#32⟩
  | .hdmaWMainFlags _ => ⟨.hdmaEntry, 0xFFFF#32, 0x0008#32⟩
  | .hdmaWCmathFade _ => ⟨.hdmaEntry, 0xFFFF#32, 0x0009#32⟩
  | .hdmaWCmathFlags _ => ⟨.hdmaEntry, 0xFFFF#32, 0x000A#32⟩
  | .hdmaWBg0X _ => ⟨.hdmaEntry, 0xFFFF#32, 0x000B#32⟩
  | .hdmaWBg0Y _ => ⟨.hdmaEntry, 0xFFFF#32, 0x000C#32⟩
  | .hdmaWBg0Windows _ => ⟨.hdmaEntry, 0xFFFF#32, 0x000D#32⟩
  | .hdmaWBg0Flags _ => ⟨.hdmaEntry, 0xFFFF#32, 0x000E#32⟩
  | .hdmaWBg1X _ => ⟨.hdmaEntry, 0xFFFF#32, 0x000F#32⟩
  | .hdmaWBg1Y _ => ⟨.hdmaEntry, 0xFFFF#32, 0x0010#32⟩
  | .hdmaWBg1Windows _ => ⟨.hdmaEntry, 0xFFFF#32, 0x0011#32⟩
  | .hdmaWBg1Flags _ => ⟨.hdmaEntry, 0xFFFF#32, 0x0012#32⟩
  | .hdmaWHdmaEnable _ => ⟨.hdmaEntry, 0xFFFF#32, 0x0013#32⟩
  | .hdmaDisable _ => ⟨.hdmaEntry, 0xFFFF#32, 0x0014#32⟩
  | .hdmaRsvd21 _ _ => ⟨.hdmaEntry, 0xFFFF#32, 0x0015#32⟩
  | .hdmaRsvd22 _ _ => ⟨.hdmaEntry, 0xFFFE#32, 0x0016#32⟩
  | .hdmaRsvd24 _ _ => ⟨.hdmaEntry, 0xFFF8#32, 0x0018#32⟩
  | .hdmaRsvd32 _ _ => ⟨.hdmaEntry, 0xFFE0#32, 0x0020#32⟩
  | .hdmaRsvd64 _ _ => ⟨.hdmaEntry, 0xFFC0#32, 0x0040#32⟩
  | .hdmaRsvd128 _ _ => ⟨.hdmaEntry, 0xFF80#32, 0x0080#32⟩
  | .hdmaRsvd256 _ _ => ⟨.hdmaEntry, 0xFF00#32, 0x0100#32⟩
  | .hdmaRsvd512 _ _ => ⟨.hdmaEntry, 0xFE00#32, 0x0200#32⟩
  | .hdmaRsvd1024 _ _ => ⟨.hdmaEntry, 0xFC00#32, 0x0400#32⟩
  | .hdmaRsvd2048 _ _ => ⟨.hdmaEntry, 0xF800#32, 0x0800#32⟩
  | .hdmaRsvd4096 _ _ => ⟨.hdmaEntry, 0xF000#32, 0x1000#32⟩
  | .hdmaRsvd8192 _ _ => ⟨.hdmaEntry, 0xE000#32, 0x2000#32⟩
  | .hdmaRsvd16384 _ _ => ⟨.hdmaEntry, 0xC000#32, 0x4000#32⟩
  | .hdmaRsvd32768 _ _ => ⟨.hdmaEntry, 0x8000#32, 0x8000#32⟩
  | .render _ => ⟨.hostWrite, 0x0000#32, 0x0000#32⟩
  | .blank _ => ⟨.hostWrite, 0x0000#32, 0x0000#32⟩
  | .sprblit0 _ => ⟨.sprKey, 0x003C#32, 0x0000#32⟩
  | .sprblit1 _ => ⟨.sprKey, 0x003C#32, 0x0004#32⟩
  | .sprblit2 _ => ⟨.sprKey, 0x003C#32, 0x0008#32⟩
  | .sprblit3 _ => ⟨.sprKey, 0x003C#32, 0x000C#32⟩
  | .sprblit4 _ => ⟨.sprKey, 0x003C#32, 0x0010#32⟩
  | .sprblit5 _ => ⟨.sprKey, 0x003C#32, 0x0014#32⟩
  | .sprblit6 _ => ⟨.sprKey, 0x003C#32, 0x0018#32⟩
  | .sprblit7 _ => ⟨.sprKey, 0x003C#32, 0x001C#32⟩
  | .sprblit8 _ => ⟨.sprKey, 0x003C#32, 0x0020#32⟩
  | .sprblit9 _ => ⟨.sprKey, 0x003C#32, 0x0024#32⟩
  | .sprblit10 _ => ⟨.sprKey, 0x003C#32, 0x0028#32⟩
  | .sprblit11 _ => ⟨.sprKey, 0x003C#32, 0x002C#32⟩
  | .sprblit12 _ => ⟨.sprKey, 0x003C#32, 0x0030#32⟩
  | .sprblit13 _ => ⟨.sprKey, 0x003C#32, 0x0034#32⟩
  | .sprblit14 _ => ⟨.sprKey, 0x003C#32, 0x0038#32⟩
  | .sprblit15 _ => ⟨.sprKey, 0x003C#32, 0x003C#32⟩
  | .scan00 => ⟨.mainKey, 0x003F#32, 0x0000#32⟩
  | .scan01 => ⟨.mainKey, 0x003F#32, 0x0001#32⟩
  | .scan02 => ⟨.mainKey, 0x003F#32, 0x0002#32⟩
  | .scan03 => ⟨.mainKey, 0x003F#32, 0x0003#32⟩
  | .scan04 => ⟨.mainKey, 0x003F#32, 0x0004#32⟩
  | .scan05 => ⟨.mainKey, 0x003F#32, 0x0005#32⟩
  | .scan06 => ⟨.mainKey, 0x003F#32, 0x0006#32⟩
  | .scan07 => ⟨.mainKey, 0x003F#32, 0x0007#32⟩
  | .scan08 => ⟨.mainKey, 0x003F#32, 0x0008#32⟩
  | .scan09 => ⟨.mainKey, 0x003F#32, 0x0009#32⟩
  | .scan0A => ⟨.mainKey, 0x003F#32, 0x000A#32⟩
  | .scan0B => ⟨.mainKey, 0x003F#32, 0x000B#32⟩
  | .scan0C => ⟨.mainKey, 0x003F#32, 0x000C#32⟩
  | .scan0D => ⟨.mainKey, 0x003F#32, 0x000D#32⟩
  | .scan0E => ⟨.mainKey, 0x003F#32, 0x000E#32⟩
  | .scan0F => ⟨.mainKey, 0x003F#32, 0x000F#32⟩
  | .scan10 => ⟨.mainKey, 0x003F#32, 0x0010#32⟩
  | .scan11 => ⟨.mainKey, 0x003F#32, 0x0011#32⟩
  | .scan12 => ⟨.mainKey, 0x003F#32, 0x0012#32⟩
  | .scan13 => ⟨.mainKey, 0x003F#32, 0x0013#32⟩
  | .scan14 => ⟨.mainKey, 0x003F#32, 0x0014#32⟩
  | .scan15 => ⟨.mainKey, 0x003F#32, 0x0015#32⟩
  | .scan16 => ⟨.mainKey, 0x003F#32, 0x0016#32⟩
  | .scan17 => ⟨.mainKey, 0x003F#32, 0x0017#32⟩
  | .scan18 => ⟨.mainKey, 0x003F#32, 0x0018#32⟩
  | .scan19 => ⟨.mainKey, 0x003F#32, 0x0019#32⟩
  | .scan1A => ⟨.mainKey, 0x003F#32, 0x001A#32⟩
  | .scan1B => ⟨.mainKey, 0x003F#32, 0x001B#32⟩
  | .scan1C => ⟨.mainKey, 0x003F#32, 0x001C#32⟩
  | .scan1D => ⟨.mainKey, 0x003F#32, 0x001D#32⟩
  | .scan1E => ⟨.mainKey, 0x003F#32, 0x001E#32⟩
  | .scan1F => ⟨.mainKey, 0x003F#32, 0x001F#32⟩
  | .scan20 => ⟨.mainKey, 0x003F#32, 0x0020#32⟩
  | .scan21 => ⟨.mainKey, 0x003F#32, 0x0021#32⟩
  | .scan22 => ⟨.mainKey, 0x003F#32, 0x0022#32⟩
  | .scan23 => ⟨.mainKey, 0x003F#32, 0x0023#32⟩
  | .scan24 => ⟨.mainKey, 0x003F#32, 0x0024#32⟩
  | .scan25 => ⟨.mainKey, 0x003F#32, 0x0025#32⟩
  | .scan26 => ⟨.mainKey, 0x003F#32, 0x0026#32⟩
  | .scan27 => ⟨.mainKey, 0x003F#32, 0x0027#32⟩
  | .scan28 => ⟨.mainKey, 0x003F#32, 0x0028#32⟩
  | .scan29 => ⟨.mainKey, 0x003F#32, 0x0029#32⟩
  | .scan2A => ⟨.mainKey, 0x003F#32, 0x002A#32⟩
  | .scan2B => ⟨.mainKey, 0x003F#32, 0x002B#32⟩
  | .scan2C => ⟨.mainKey, 0x003F#32, 0x002C#32⟩
  | .scan2D => ⟨.mainKey, 0x003F#32, 0x002D#32⟩
  | .scan2E => ⟨.mainKey, 0x003F#32, 0x002E#32⟩
  | .scan2F => ⟨.mainKey, 0x003F#32, 0x002F#32⟩
  | .scan30 => ⟨.mainKey, 0x003F#32, 0x0030#32⟩
  | .scan31 => ⟨.mainKey, 0x003F#32, 0x0031#32⟩
  | .scan32 => ⟨.mainKey, 0x003F#32, 0x0032#32⟩
  | .scan33 => ⟨.mainKey, 0x003F#32, 0x0033#32⟩
  | .scan34 => ⟨.mainKey, 0x003F#32, 0x0034#32⟩
  | .scan35 => ⟨.mainKey, 0x003F#32, 0x0035#32⟩
  | .scan36 => ⟨.mainKey, 0x003F#32, 0x0036#32⟩
  | .scan37 => ⟨.mainKey, 0x003F#32, 0x0037#32⟩
  | .scan38 => ⟨.mainKey, 0x003F#32, 0x0038#32⟩
  | .scan39 => ⟨.mainKey, 0x003F#32, 0x0039#32⟩
  | .scan3A => ⟨.mainKey, 0x003F#32, 0x003A#32⟩
  | .scan3B => ⟨.mainKey, 0x003F#32, 0x003B#32⟩
  | .scan3C => ⟨.mainKey, 0x003F#32, 0x003C#32⟩
  | .scan3D => ⟨.mainKey, 0x003F#32, 0x003D#32⟩
  | .scan3E => ⟨.mainKey, 0x003F#32, 0x003E#32⟩
  | .scan3F => ⟨.mainKey, 0x003F#32, 0x003F#32⟩
  | .cmath00 => ⟨.cmathKey, 0x00FF#32, 0x0000#32⟩
  | .cmath01 => ⟨.cmathKey, 0x00FF#32, 0x0001#32⟩
  | .cmath02 => ⟨.cmathKey, 0x00FF#32, 0x0002#32⟩
  | .cmath03 => ⟨.cmathKey, 0x00FF#32, 0x0003#32⟩
  | .cmath04 => ⟨.cmathKey, 0x00FF#32, 0x0004#32⟩
  | .cmath05 => ⟨.cmathKey, 0x00FF#32, 0x0005#32⟩
  | .cmath06 => ⟨.cmathKey, 0x00FF#32, 0x0006#32⟩
  | .cmath07 => ⟨.cmathKey, 0x00FF#32, 0x0007#32⟩
  | .cmath08 => ⟨.cmathKey, 0x00FF#32, 0x0008#32⟩
  | .cmath09 => ⟨.cmathKey, 0x00FF#32, 0x0009#32⟩
  | .cmath0A => ⟨.cmathKey, 0x00FF#32, 0x000A#32⟩
  | .cmath0B => ⟨.cmathKey, 0x00FF#32, 0x000B#32⟩
  | .cmath0C => ⟨.cmathKey, 0x00FF#32, 0x000C#32⟩
  | .cmath0D => ⟨.cmathKey, 0x00FF#32, 0x000D#32⟩
  | .cmath0E => ⟨.cmathKey, 0x00FF#32, 0x000E#32⟩
  | .cmath0F => ⟨.cmathKey, 0x00FF#32, 0x000F#32⟩
  | .cmath10 => ⟨.cmathKey, 0x00FF#32, 0x0010#32⟩
  | .cmath11 => ⟨.cmathKey, 0x00FF#32, 0x0011#32⟩
  | .cmath12 => ⟨.cmathKey, 0x00FF#32, 0x0012#32⟩
  | .cmath13 => ⟨.cmathKey, 0x00FF#32, 0x0013#32⟩
  | .cmath14 => ⟨.cmathKey, 0x00FF#32, 0x0014#32⟩
  | .cmath15 => ⟨.cmathKey, 0x00FF#32, 0x0015#32⟩
  | .cmath16 => ⟨.cmathKey, 0x00FF#32, 0x0016#32⟩
  | .cmath17 => ⟨.cmathKey, 0x00FF#32, 0x0017#32⟩
  | .cmath18 => ⟨.cmathKey, 0x00FF#32, 0x0018#32⟩
  | .cmath19 => ⟨.cmathKey, 0x00FF#32, 0x0019#32⟩
  | .cmath1A => ⟨.cmathKey, 0x00FF#32, 0x001A#32⟩
  | .cmath1B => ⟨.cmathKey, 0x00FF#32, 0x001B#32⟩
  | .cmath1C => ⟨.cmathKey, 0x00FF#32, 0x001C#32⟩
  | .cmath1D => ⟨.cmathKey, 0x00FF#32, 0x001D#32⟩
  | .cmath1E => ⟨.cmathKey, 0x00FF#32, 0x001E#32⟩
  | .cmath1F => ⟨.cmathKey, 0x00FF#32, 0x001F#32⟩
  | .cmath20 => ⟨.cmathKey, 0x00FF#32, 0x0020#32⟩
  | .cmath21 => ⟨.cmathKey, 0x00FF#32, 0x0021#32⟩
  | .cmath22 => ⟨.cmathKey, 0x00FF#32, 0x0022#32⟩
  | .cmath23 => ⟨.cmathKey, 0x00FF#32, 0x0023#32⟩
  | .cmath24 => ⟨.cmathKey, 0x00FF#32, 0x0024#32⟩
  | .cmath25 => ⟨.cmathKey, 0x00FF#32, 0x0025#32⟩
  | .cmath26 => ⟨.cmathKey, 0x00FF#32, 0x0026#32⟩
  | .cmath27 => ⟨.cmathKey, 0x00FF#32, 0x0027#32⟩
  | .cmath28 => ⟨.cmathKey, 0x00FF#32, 0x0028#32⟩
  | .cmath29 => ⟨.cmathKey, 0x00FF#32, 0x0029#32⟩
  | .cmath2A => ⟨.cmathKey, 0x00FF#32, 0x002A#32⟩
  | .cmath2B => ⟨.cmathKey, 0x00FF#32, 0x002B#32⟩
  | .cmath2C => ⟨.cmathKey, 0x00FF#32, 0x002C#32⟩
  | .cmath2D => ⟨.cmathKey, 0x00FF#32, 0x002D#32⟩
  | .cmath2E => ⟨.cmathKey, 0x00FF#32, 0x002E#32⟩
  | .cmath2F => ⟨.cmathKey, 0x00FF#32, 0x002F#32⟩
  | .cmath30 => ⟨.cmathKey, 0x00FF#32, 0x0030#32⟩
  | .cmath31 => ⟨.cmathKey, 0x00FF#32, 0x0031#32⟩
  | .cmath32 => ⟨.cmathKey, 0x00FF#32, 0x0032#32⟩
  | .cmath33 => ⟨.cmathKey, 0x00FF#32, 0x0033#32⟩
  | .cmath34 => ⟨.cmathKey, 0x00FF#32, 0x0034#32⟩
  | .cmath35 => ⟨.cmathKey, 0x00FF#32, 0x0035#32⟩
  | .cmath36 => ⟨.cmathKey, 0x00FF#32, 0x0036#32⟩
  | .cmath37 => ⟨.cmathKey, 0x00FF#32, 0x0037#32⟩
  | .cmath38 => ⟨.cmathKey, 0x00FF#32, 0x0038#32⟩
  | .cmath39 => ⟨.cmathKey, 0x00FF#32, 0x0039#32⟩
  | .cmath3A => ⟨.cmathKey, 0x00FF#32, 0x003A#32⟩
  | .cmath3B => ⟨.cmathKey, 0x00FF#32, 0x003B#32⟩
  | .cmath3C => ⟨.cmathKey, 0x00FF#32, 0x003C#32⟩
  | .cmath3D => ⟨.cmathKey, 0x00FF#32, 0x003D#32⟩
  | .cmath3E => ⟨.cmathKey, 0x00FF#32, 0x003E#32⟩
  | .cmath3F => ⟨.cmathKey, 0x00FF#32, 0x003F#32⟩
  | .cmath40 => ⟨.cmathKey, 0x00FF#32, 0x0040#32⟩
  | .cmath41 => ⟨.cmathKey, 0x00FF#32, 0x0041#32⟩
  | .cmath42 => ⟨.cmathKey, 0x00FF#32, 0x0042#32⟩
  | .cmath43 => ⟨.cmathKey, 0x00FF#32, 0x0043#32⟩
  | .cmath44 => ⟨.cmathKey, 0x00FF#32, 0x0044#32⟩
  | .cmath45 => ⟨.cmathKey, 0x00FF#32, 0x0045#32⟩
  | .cmath46 => ⟨.cmathKey, 0x00FF#32, 0x0046#32⟩
  | .cmath47 => ⟨.cmathKey, 0x00FF#32, 0x0047#32⟩
  | .cmath48 => ⟨.cmathKey, 0x00FF#32, 0x0048#32⟩
  | .cmath49 => ⟨.cmathKey, 0x00FF#32, 0x0049#32⟩
  | .cmath4A => ⟨.cmathKey, 0x00FF#32, 0x004A#32⟩
  | .cmath4B => ⟨.cmathKey, 0x00FF#32, 0x004B#32⟩
  | .cmath4C => ⟨.cmathKey, 0x00FF#32, 0x004C#32⟩
  | .cmath4D => ⟨.cmathKey, 0x00FF#32, 0x004D#32⟩
  | .cmath4E => ⟨.cmathKey, 0x00FF#32, 0x004E#32⟩
  | .cmath4F => ⟨.cmathKey, 0x00FF#32, 0x004F#32⟩
  | .cmath50 => ⟨.cmathKey, 0x00FF#32, 0x0050#32⟩
  | .cmath51 => ⟨.cmathKey, 0x00FF#32, 0x0051#32⟩
  | .cmath52 => ⟨.cmathKey, 0x00FF#32, 0x0052#32⟩
  | .cmath53 => ⟨.cmathKey, 0x00FF#32, 0x0053#32⟩
  | .cmath54 => ⟨.cmathKey, 0x00FF#32, 0x0054#32⟩
  | .cmath55 => ⟨.cmathKey, 0x00FF#32, 0x0055#32⟩
  | .cmath56 => ⟨.cmathKey, 0x00FF#32, 0x0056#32⟩
  | .cmath57 => ⟨.cmathKey, 0x00FF#32, 0x0057#32⟩
  | .cmath58 => ⟨.cmathKey, 0x00FF#32, 0x0058#32⟩
  | .cmath59 => ⟨.cmathKey, 0x00FF#32, 0x0059#32⟩
  | .cmath5A => ⟨.cmathKey, 0x00FF#32, 0x005A#32⟩
  | .cmath5B => ⟨.cmathKey, 0x00FF#32, 0x005B#32⟩
  | .cmath5C => ⟨.cmathKey, 0x00FF#32, 0x005C#32⟩
  | .cmath5D => ⟨.cmathKey, 0x00FF#32, 0x005D#32⟩
  | .cmath5E => ⟨.cmathKey, 0x00FF#32, 0x005E#32⟩
  | .cmath5F => ⟨.cmathKey, 0x00FF#32, 0x005F#32⟩
  | .cmath60 => ⟨.cmathKey, 0x00FF#32, 0x0060#32⟩
  | .cmath61 => ⟨.cmathKey, 0x00FF#32, 0x0061#32⟩
  | .cmath62 => ⟨.cmathKey, 0x00FF#32, 0x0062#32⟩
  | .cmath63 => ⟨.cmathKey, 0x00FF#32, 0x0063#32⟩
  | .cmath64 => ⟨.cmathKey, 0x00FF#32, 0x0064#32⟩
  | .cmath65 => ⟨.cmathKey, 0x00FF#32, 0x0065#32⟩
  | .cmath66 => ⟨.cmathKey, 0x00FF#32, 0x0066#32⟩
  | .cmath67 => ⟨.cmathKey, 0x00FF#32, 0x0067#32⟩
  | .cmath68 => ⟨.cmathKey, 0x00FF#32, 0x0068#32⟩
  | .cmath69 => ⟨.cmathKey, 0x00FF#32, 0x0069#32⟩
  | .cmath6A => ⟨.cmathKey, 0x00FF#32, 0x006A#32⟩
  | .cmath6B => ⟨.cmathKey, 0x00FF#32, 0x006B#32⟩
  | .cmath6C => ⟨.cmathKey, 0x00FF#32, 0x006C#32⟩
  | .cmath6D => ⟨.cmathKey, 0x00FF#32, 0x006D#32⟩
  | .cmath6E => ⟨.cmathKey, 0x00FF#32, 0x006E#32⟩
  | .cmath6F => ⟨.cmathKey, 0x00FF#32, 0x006F#32⟩
  | .cmath70 => ⟨.cmathKey, 0x00FF#32, 0x0070#32⟩
  | .cmath71 => ⟨.cmathKey, 0x00FF#32, 0x0071#32⟩
  | .cmath72 => ⟨.cmathKey, 0x00FF#32, 0x0072#32⟩
  | .cmath73 => ⟨.cmathKey, 0x00FF#32, 0x0073#32⟩
  | .cmath74 => ⟨.cmathKey, 0x00FF#32, 0x0074#32⟩
  | .cmath75 => ⟨.cmathKey, 0x00FF#32, 0x0075#32⟩
  | .cmath76 => ⟨.cmathKey, 0x00FF#32, 0x0076#32⟩
  | .cmath77 => ⟨.cmathKey, 0x00FF#32, 0x0077#32⟩
  | .cmath78 => ⟨.cmathKey, 0x00FF#32, 0x0078#32⟩
  | .cmath79 => ⟨.cmathKey, 0x00FF#32, 0x0079#32⟩
  | .cmath7A => ⟨.cmathKey, 0x00FF#32, 0x007A#32⟩
  | .cmath7B => ⟨.cmathKey, 0x00FF#32, 0x007B#32⟩
  | .cmath7C => ⟨.cmathKey, 0x00FF#32, 0x007C#32⟩
  | .cmath7D => ⟨.cmathKey, 0x00FF#32, 0x007D#32⟩
  | .cmath7E => ⟨.cmathKey, 0x00FF#32, 0x007E#32⟩
  | .cmath7F => ⟨.cmathKey, 0x00FF#32, 0x007F#32⟩
  | .cmath80 => ⟨.cmathKey, 0x00FF#32, 0x0080#32⟩
  | .cmath81 => ⟨.cmathKey, 0x00FF#32, 0x0081#32⟩
  | .cmath82 => ⟨.cmathKey, 0x00FF#32, 0x0082#32⟩
  | .cmath83 => ⟨.cmathKey, 0x00FF#32, 0x0083#32⟩
  | .cmath84 => ⟨.cmathKey, 0x00FF#32, 0x0084#32⟩
  | .cmath85 => ⟨.cmathKey, 0x00FF#32, 0x0085#32⟩
  | .cmath86 => ⟨.cmathKey, 0x00FF#32, 0x0086#32⟩
  | .cmath87 => ⟨.cmathKey, 0x00FF#32, 0x0087#32⟩
  | .cmath88 => ⟨.cmathKey, 0x00FF#32, 0x0088#32⟩
  | .cmath89 => ⟨.cmathKey, 0x00FF#32, 0x0089#32⟩
  | .cmath8A => ⟨.cmathKey, 0x00FF#32, 0x008A#32⟩
  | .cmath8B => ⟨.cmathKey, 0x00FF#32, 0x008B#32⟩
  | .cmath8C => ⟨.cmathKey, 0x00FF#32, 0x008C#32⟩
  | .cmath8D => ⟨.cmathKey, 0x00FF#32, 0x008D#32⟩
  | .cmath8E => ⟨.cmathKey, 0x00FF#32, 0x008E#32⟩
  | .cmath8F => ⟨.cmathKey, 0x00FF#32, 0x008F#32⟩
  | .cmath90 => ⟨.cmathKey, 0x00FF#32, 0x0090#32⟩
  | .cmath91 => ⟨.cmathKey, 0x00FF#32, 0x0091#32⟩
  | .cmath92 => ⟨.cmathKey, 0x00FF#32, 0x0092#32⟩
  | .cmath93 => ⟨.cmathKey, 0x00FF#32, 0x0093#32⟩
  | .cmath94 => ⟨.cmathKey, 0x00FF#32, 0x0094#32⟩
  | .cmath95 => ⟨.cmathKey, 0x00FF#32, 0x0095#32⟩
  | .cmath96 => ⟨.cmathKey, 0x00FF#32, 0x0096#32⟩
  | .cmath97 => ⟨.cmathKey, 0x00FF#32, 0x0097#32⟩
  | .cmath98 => ⟨.cmathKey, 0x00FF#32, 0x0098#32⟩
  | .cmath99 => ⟨.cmathKey, 0x00FF#32, 0x0099#32⟩
  | .cmath9A => ⟨.cmathKey, 0x00FF#32, 0x009A#32⟩
  | .cmath9B => ⟨.cmathKey, 0x00FF#32, 0x009B#32⟩
  | .cmath9C => ⟨.cmathKey, 0x00FF#32, 0x009C#32⟩
  | .cmath9D => ⟨.cmathKey, 0x00FF#32, 0x009D#32⟩
  | .cmath9E => ⟨.cmathKey, 0x00FF#32, 0x009E#32⟩
  | .cmath9F => ⟨.cmathKey, 0x00FF#32, 0x009F#32⟩
  | .cmathA0 => ⟨.cmathKey, 0x00FF#32, 0x00A0#32⟩
  | .cmathA1 => ⟨.cmathKey, 0x00FF#32, 0x00A1#32⟩
  | .cmathA2 => ⟨.cmathKey, 0x00FF#32, 0x00A2#32⟩
  | .cmathA3 => ⟨.cmathKey, 0x00FF#32, 0x00A3#32⟩
  | .cmathA4 => ⟨.cmathKey, 0x00FF#32, 0x00A4#32⟩
  | .cmathA5 => ⟨.cmathKey, 0x00FF#32, 0x00A5#32⟩
  | .cmathA6 => ⟨.cmathKey, 0x00FF#32, 0x00A6#32⟩
  | .cmathA7 => ⟨.cmathKey, 0x00FF#32, 0x00A7#32⟩
  | .cmathA8 => ⟨.cmathKey, 0x00FF#32, 0x00A8#32⟩
  | .cmathA9 => ⟨.cmathKey, 0x00FF#32, 0x00A9#32⟩
  | .cmathAA => ⟨.cmathKey, 0x00FF#32, 0x00AA#32⟩
  | .cmathAB => ⟨.cmathKey, 0x00FF#32, 0x00AB#32⟩
  | .cmathAC => ⟨.cmathKey, 0x00FF#32, 0x00AC#32⟩
  | .cmathAD => ⟨.cmathKey, 0x00FF#32, 0x00AD#32⟩
  | .cmathAE => ⟨.cmathKey, 0x00FF#32, 0x00AE#32⟩
  | .cmathAF => ⟨.cmathKey, 0x00FF#32, 0x00AF#32⟩
  | .cmathB0 => ⟨.cmathKey, 0x00FF#32, 0x00B0#32⟩
  | .cmathB1 => ⟨.cmathKey, 0x00FF#32, 0x00B1#32⟩
  | .cmathB2 => ⟨.cmathKey, 0x00FF#32, 0x00B2#32⟩
  | .cmathB3 => ⟨.cmathKey, 0x00FF#32, 0x00B3#32⟩
  | .cmathB4 => ⟨.cmathKey, 0x00FF#32, 0x00B4#32⟩
  | .cmathB5 => ⟨.cmathKey, 0x00FF#32, 0x00B5#32⟩
  | .cmathB6 => ⟨.cmathKey, 0x00FF#32, 0x00B6#32⟩
  | .cmathB7 => ⟨.cmathKey, 0x00FF#32, 0x00B7#32⟩
  | .cmathB8 => ⟨.cmathKey, 0x00FF#32, 0x00B8#32⟩
  | .cmathB9 => ⟨.cmathKey, 0x00FF#32, 0x00B9#32⟩
  | .cmathBA => ⟨.cmathKey, 0x00FF#32, 0x00BA#32⟩
  | .cmathBB => ⟨.cmathKey, 0x00FF#32, 0x00BB#32⟩
  | .cmathBC => ⟨.cmathKey, 0x00FF#32, 0x00BC#32⟩
  | .cmathBD => ⟨.cmathKey, 0x00FF#32, 0x00BD#32⟩
  | .cmathBE => ⟨.cmathKey, 0x00FF#32, 0x00BE#32⟩
  | .cmathBF => ⟨.cmathKey, 0x00FF#32, 0x00BF#32⟩
  | .cmathC0 => ⟨.cmathKey, 0x00FF#32, 0x00C0#32⟩
  | .cmathC1 => ⟨.cmathKey, 0x00FF#32, 0x00C1#32⟩
  | .cmathC2 => ⟨.cmathKey, 0x00FF#32, 0x00C2#32⟩
  | .cmathC3 => ⟨.cmathKey, 0x00FF#32, 0x00C3#32⟩
  | .cmathC4 => ⟨.cmathKey, 0x00FF#32, 0x00C4#32⟩
  | .cmathC5 => ⟨.cmathKey, 0x00FF#32, 0x00C5#32⟩
  | .cmathC6 => ⟨.cmathKey, 0x00FF#32, 0x00C6#32⟩
  | .cmathC7 => ⟨.cmathKey, 0x00FF#32, 0x00C7#32⟩
  | .cmathC8 => ⟨.cmathKey, 0x00FF#32, 0x00C8#32⟩
  | .cmathC9 => ⟨.cmathKey, 0x00FF#32, 0x00C9#32⟩
  | .cmathCA => ⟨.cmathKey, 0x00FF#32, 0x00CA#32⟩
  | .cmathCB => ⟨.cmathKey, 0x00FF#32, 0x00CB#32⟩
  | .cmathCC => ⟨.cmathKey, 0x00FF#32, 0x00CC#32⟩
  | .cmathCD => ⟨.cmathKey, 0x00FF#32, 0x00CD#32⟩
  | .cmathCE => ⟨.cmathKey, 0x00FF#32, 0x00CE#32⟩
  | .cmathCF => ⟨.cmathKey, 0x00FF#32, 0x00CF#32⟩
  | .cmathD0 => ⟨.cmathKey, 0x00FF#32, 0x00D0#32⟩
  | .cmathD1 => ⟨.cmathKey, 0x00FF#32, 0x00D1#32⟩
  | .cmathD2 => ⟨.cmathKey, 0x00FF#32, 0x00D2#32⟩
  | .cmathD3 => ⟨.cmathKey, 0x00FF#32, 0x00D3#32⟩
  | .cmathD4 => ⟨.cmathKey, 0x00FF#32, 0x00D4#32⟩
  | .cmathD5 => ⟨.cmathKey, 0x00FF#32, 0x00D5#32⟩
  | .cmathD6 => ⟨.cmathKey, 0x00FF#32, 0x00D6#32⟩
  | .cmathD7 => ⟨.cmathKey, 0x00FF#32, 0x00D7#32⟩
  | .cmathD8 => ⟨.cmathKey, 0x00FF#32, 0x00D8#32⟩
  | .cmathD9 => ⟨.cmathKey, 0x00FF#32, 0x00D9#32⟩
  | .cmathDA => ⟨.cmathKey, 0x00FF#32, 0x00DA#32⟩
  | .cmathDB => ⟨.cmathKey, 0x00FF#32, 0x00DB#32⟩
  | .cmathDC => ⟨.cmathKey, 0x00FF#32, 0x00DC#32⟩
  | .cmathDD => ⟨.cmathKey, 0x00FF#32, 0x00DD#32⟩
  | .cmathDE => ⟨.cmathKey, 0x00FF#32, 0x00DE#32⟩
  | .cmathDF => ⟨.cmathKey, 0x00FF#32, 0x00DF#32⟩
  | .cmathE0 => ⟨.cmathKey, 0x00FF#32, 0x00E0#32⟩
  | .cmathE1 => ⟨.cmathKey, 0x00FF#32, 0x00E1#32⟩
  | .cmathE2 => ⟨.cmathKey, 0x00FF#32, 0x00E2#32⟩
  | .cmathE3 => ⟨.cmathKey, 0x00FF#32, 0x00E3#32⟩
  | .cmathE4 => ⟨.cmathKey, 0x00FF#32, 0x00E4#32⟩
  | .cmathE5 => ⟨.cmathKey, 0x00FF#32, 0x00E5#32⟩
  | .cmathE6 => ⟨.cmathKey, 0x00FF#32, 0x00E6#32⟩
  | .cmathE7 => ⟨.cmathKey, 0x00FF#32, 0x00E7#32⟩
  | .cmathE8 => ⟨.cmathKey, 0x00FF#32, 0x00E8#32⟩
  | .cmathE9 => ⟨.cmathKey, 0x00FF#32, 0x00E9#32⟩
  | .cmathEA => ⟨.cmathKey, 0x00FF#32, 0x00EA#32⟩
  | .cmathEB => ⟨.cmathKey, 0x00FF#32, 0x00EB#32⟩
  | .cmathEC => ⟨.cmathKey, 0x00FF#32, 0x00EC#32⟩
  | .cmathED => ⟨.cmathKey, 0x00FF#32, 0x00ED#32⟩
  | .cmathEE => ⟨.cmathKey, 0x00FF#32, 0x00EE#32⟩
  | .cmathEF => ⟨.cmathKey, 0x00FF#32, 0x00EF#32⟩
  | .cmathF0 => ⟨.cmathKey, 0x00FF#32, 0x00F0#32⟩
  | .cmathF1 => ⟨.cmathKey, 0x00FF#32, 0x00F1#32⟩
  | .cmathF2 => ⟨.cmathKey, 0x00FF#32, 0x00F2#32⟩
  | .cmathF3 => ⟨.cmathKey, 0x00FF#32, 0x00F3#32⟩
  | .cmathF4 => ⟨.cmathKey, 0x00FF#32, 0x00F4#32⟩
  | .cmathF5 => ⟨.cmathKey, 0x00FF#32, 0x00F5#32⟩
  | .cmathF6 => ⟨.cmathKey, 0x00FF#32, 0x00F6#32⟩
  | .cmathF7 => ⟨.cmathKey, 0x00FF#32, 0x00F7#32⟩
  | .cmathF8 => ⟨.cmathKey, 0x00FF#32, 0x00F8#32⟩
  | .cmathF9 => ⟨.cmathKey, 0x00FF#32, 0x00F9#32⟩
  | .cmathFA => ⟨.cmathKey, 0x00FF#32, 0x00FA#32⟩
  | .cmathFB => ⟨.cmathKey, 0x00FF#32, 0x00FB#32⟩
  | .cmathFC => ⟨.cmathKey, 0x00FF#32, 0x00FC#32⟩
  | .cmathFD => ⟨.cmathKey, 0x00FF#32, 0x00FD#32⟩
  | .cmathFE => ⟨.cmathKey, 0x00FF#32, 0x00FE#32⟩
  | .cmathFF => ⟨.cmathKey, 0x00FF#32, 0x00FF#32⟩
  | .winnib0 => ⟨.winNib, 0x000F#32, 0x0000#32⟩
  | .winnib1 => ⟨.winNib, 0x000F#32, 0x0001#32⟩
  | .winnib2 => ⟨.winNib, 0x000F#32, 0x0002#32⟩
  | .winnib3 => ⟨.winNib, 0x000F#32, 0x0003#32⟩
  | .winnib4 => ⟨.winNib, 0x000F#32, 0x0004#32⟩
  | .winnib5 => ⟨.winNib, 0x000F#32, 0x0005#32⟩
  | .winnib6 => ⟨.winNib, 0x000F#32, 0x0006#32⟩
  | .winnib7 => ⟨.winNib, 0x000F#32, 0x0007#32⟩
  | .winnib8 => ⟨.winNib, 0x000F#32, 0x0008#32⟩
  | .winnib9 => ⟨.winNib, 0x000F#32, 0x0009#32⟩
  | .winnibA => ⟨.winNib, 0x000F#32, 0x000A#32⟩
  | .winnibB => ⟨.winNib, 0x000F#32, 0x000B#32⟩
  | .winnibC => ⟨.winNib, 0x000F#32, 0x000C#32⟩
  | .winnibD => ⟨.winNib, 0x000F#32, 0x000D#32⟩
  | .winnibE => ⟨.winNib, 0x000F#32, 0x000E#32⟩
  | .winnibF => ⟨.winNib, 0x000F#32, 0x000F#32⟩

/-- A word lies in a row of the table: same format, and its bits under the row's mask are the row's pattern (R121). -/
abbrev OpcodeRow.holds (r : OpcodeRow) (c : Code) : Prop :=
  c.format = r.format ∧ c.bits &&& r.mask = r.pattern

/-! ### The pseudo-instructions of the spec's notation (R118) -/

/-- `END` = `DISABLE`. -/
def pseudoEnd : Instr := .hdmaDisable 0

/-- `ENABLE <m>` = `W.HDMA_ENABLE <m>`. -/
def pseudoEnable (m : Half) : Instr := .hdmaWHdmaEnable m

/-- `SCROLLX <n> <v>` = `W.BG<n>_X <v>`; `n` is true for background 1. -/
def pseudoScrollX (n : Bool) (v : Half) : Instr := if n then .hdmaWBg1X v else .hdmaWBg0X v

/-- `SCROLLY <n> <v>` = `W.BG<n>_Y <v>`. -/
def pseudoScrollY (n : Bool) (v : Half) : Instr := if n then .hdmaWBg1Y v else .hdmaWBg0Y v

end Sys2Proof
end

