-- ==== Sys2Proof/Machine/State.lean ====
section
/-!
DEFINITION. The state of the compositor as plain data: everything `10_state.md` R20 lists, the transfer in progress that
R300 implies, and the model's own ports to the host, each marked as such. `State.reset` is `70_reset_and_hazards.md` R350.
-/

namespace Sys2Proof.Machine

/-- The contents of one address space of `10_state.md` R50 in its byte view (`20_memory.md` R70): pairs of a byte address and
a byte, addresses strictly rising, and no pair that says what an unlisted address reads as. Byte `k` of the `n`-byte entry
`idx` stands at address `n * idx + k`. -/
abbrev Mem := List Host.Cell

/-- The 19 State Store registers x[1]..x[19] (`10_state.md` R22 to R40), in the order of their numbers. -/
structure Regs where
  /-- x[1] (R22): the main screen's fallback colour. -/
  mainColour : Pixel
  /-- x[2] (R23): the sub screen's fallback colour. -/
  subColour : Pixel
  /-- x[3] (R24): window 1's left boundary, signed. -/
  win1Left : Half
  /-- x[4] (R25): window 1's right boundary, signed. -/
  win1Right : Half
  /-- x[5] (R26): window 2's left boundary, signed. -/
  win2Left : Half
  /-- x[6] (R27): window 2's right boundary, signed. -/
  win2Right : Half
  /-- x[7] (R28): the windows byte of the background colours. -/
  bgcolWindows : Byte
  /-- x[8] (R29): the scanline dispatch key in bits 5:0. -/
  mainFlags : Byte
  /-- x[9] (R30): the fade level. -/
  cmathFade : Half
  /-- x[10] (R31): the colour-math dispatch key. -/
  cmathFlags : Byte
  /-- x[11] (R32): background 0's horizontal scroll, signed. -/
  bg0X : Half
  /-- x[12] (R33): background 0's vertical scroll, signed. -/
  bg0Y : Half
  /-- x[13] (R34): background 0's windows byte. -/
  bg0Windows : Byte
  /-- x[14] (R35): background 0's flags. -/
  bg0Flags : Byte
  /-- x[15] (R36): background 1's horizontal scroll, signed. -/
  bg1X : Half
  /-- x[16] (R37): background 1's vertical scroll, signed. -/
  bg1Y : Half
  /-- x[17] (R38): background 1's windows byte. -/
  bg1Windows : Byte
  /-- x[18] (R39): background 1's flags. -/
  bg1Flags : Byte
  /-- x[19] (R40): the HDMA enable mask. -/
  hdmaEnable : Byte
deriving DecidableEq, Repr

/-- The sequencer's program counter (`10_state.md` R48). -/
structure Pc where
  /-- `ROW`, the absolute display row. -/
  row : Byte
  /-- `TBL`, the HDMA table being considered; 8 once the row's HDMA phase is over. -/
  tbl : BitVec 4
deriving DecidableEq, Repr

/-- A sprite cache slot (`10_state.md` R55, `30_encoding.md` R120): a sprite index, or `none` for the sentinel `END`. -/
abbrev Slot := Option Byte

/-- An entry of a space that the host can reach (`10_state.md` R50). The index types are exactly the spaces' sizes (the width of
x[34] apart, which is open), so no access can fall outside its space (`20_memory.md` R72). The frame buffer is the platform's and has no port here. -/
inductive Place where
  /-- `REG`: register number 0..63. -/
  | reg (n : BitVec 6)
  /-- The 16-bit entries of x[34] above its first, where `FB_AW` exceeds 16: entry `h` holds bits `16*h+31 : 16*h+16` (`10_state.md`
  R44, `20_memory.md` R71). Its first entry is `reg 34`. Log 10. -/
  | baseHigh (h : Nat)
  /-- `OAM`: word `w` of sprite `i`. -/
  | oam (i : Byte) (w : Fin 5)
  /-- `MAP0`. -/
  | map0 (k : BitVec 12)
  /-- `MAP1`. -/
  | map1 (k : BitVec 12)
  /-- `BGATLAS`. -/
  | bgAtlas (k : BitVec 17)
  /-- `SPRATLAS`. -/
  | sprAtlas (k : BitVec 16)
  /-- `HDMA`: row `r` of table `t`. -/
  | hdma (t : BitVec 3) (r : Fin 240)
deriving DecidableEq, Repr

/-- One access of the host, the other agent (`00_scope.md` R14). -/
inductive HostAccess where
  /-- Read one entry. -/
  | read (p : Place)
  /-- Write one entry; a space narrower than the datum keeps the low bits (`10_state.md` R21). -/
  | write (p : Place) (v : Entry)
deriving DecidableEq, Repr

/-- A range of frame-buffer pixel addresses: `count` of them from `first` on. -/
structure FbRange where
  first : Nat
  count : Nat
deriving DecidableEq, Repr

/-- The state of the compositor. -/
structure State where
  /-- x[1]..x[19]. -/
  regs : Regs
  /-- x[32] FORCED_BLANK (R42). -/
  forcedBlank : BitVec 1
  /-- x[33] BLANKED, bit `s` for section `s` (R43). -/
  blanked : BitVec 4
  /-- x[34] FB_BASE (R44), a pixel address below `2 ^ FB_AW`. -/
  fbBase : Nat
  /-- x[36] STATUS bit 0, BUSY (R46). -/
  busy : BitVec 1
  /-- `pc` (R48). -/
  pc : Pc
  /-- `B` of R300: the value FB_BASE had when the render in progress was accepted. Log 12. -/
  fbLatch : Nat
  /-- `OAM` (R51). -/
  oam : Mem
  /-- `MAP0` (R52). -/
  map0 : Mem
  /-- `MAP1` (R52). -/
  map1 : Mem
  /-- `BGATLAS` (R53). -/
  bgAtlas : Mem
  /-- `SPRATLAS` (R54). -/
  sprAtlas : Mem
  /-- `HDMA` (R58). -/
  hdma : Mem
  /-- `FB` (R59): what the write port has stored; the platform's other contents are not the compositor's. Log 9. -/
  fb : Mem
  /-- The model's own: the address ranges that are not frame-buffer memory of the platform (`10_state.md` R59, `60_exceptions.md`
  R322). No step changes it. Log 28. -/
  fbAbsent : List FbRange
  /-- `CACHE[0]`, the normal-priority list, 16 slots (R55). -/
  cache0 : List Slot
  /-- `CACHE[1]`, the high-priority list, 16 slots (R55). -/
  cache1 : List Slot
  /-- `WMASK`, 240 lanes (R56). -/
  wmask : List Byte
  /-- `MAIN`, 240 pixels (R57). -/
  main : List Pixel
  /-- `SUB`, 240 pixels (R57). -/
  sub : List Pixel
  /-- `OUT`, 240 pixels: the output row of R220, R270 and `20_memory.md` R76. Log 13. -/
  out : List Pixel
  /-- The model's own: the 240 select lines that a window nibble lookup drives (R205, R206). Log 13. -/
  select : List Bool
  /-- The model's own: the accesses the host will make, in its program order (`00_scope.md` R14). Log 7. -/
  host : List HostAccess
  /-- The model's own: the datum the host's last read returned. Log 7. -/
  hostData : Entry
  /-- The model's own: a code word dispatched singly, taken before anything else; no step sets it. Log 2. -/
  dispatch : Option Code
deriving DecidableEq, Repr

/-- The reasons a step can stop with a fault: none. "Nothing in this hardware is treated as `fault` or `stuck`"
(`93_implementation_defined.md`, part 1; `60_exceptions.md` R320). Log 18. -/
inductive Fault where
deriving DecidableEq, Repr

/-- The situations a step gives no meaning. -/
inductive Refusal where
  /-- Raised by an arm of `exec` whose instruction has no meaning in the model; none is left. Safe. -/
  | notModelled (mnemonic : String)
  /-- Raised by `RENDER` and `BLANK` when `BUSY = 1`: a host access the spec forbids and refuses
  (`20_memory.md` R79, `93_implementation_defined.md` U3). Safe. -/
  | hostAccessWhileBusy
  /-- Raised by `RENDER` when one of the 14400 addresses from FB_BASE on is not frame-buffer memory of the platform: a launch that
  "a model refuses" (`60_exceptions.md` R322, `93_implementation_defined.md` U2). Safe. Log 28. -/
  | frameBufferAbsent
  /-- Raised by a step whose code word is a host write to register `n`, which is no command; only a `dispatch` word set from
  outside can be one. Safe. -/
  | noCommandRegister (n : BitVec 6)
deriving DecidableEq, Repr

/-- What an instruction or a step answers. -/
abbrev Result := Host.Outcome State Fault Refusal

/-- The registers after reset, all zero (`10_state.md` R61). -/
def Regs.reset : Regs :=
  { mainColour := 0, subColour := 0, win1Left := 0, win1Right := 0, win2Left := 0, win2Right := 0, bgcolWindows := 0,
    mainFlags := 0, cmathFade := 0, cmathFlags := 0, bg0X := 0, bg0Y := 0, bg0Windows := 0, bg0Flags := 0,
    bg1X := 0, bg1Y := 0, bg1Windows := 0, bg1Flags := 0, hdmaEnable := 0 }

/-- The machine after reset (`70_reset_and_hazards.md` R350). The spec leaves the scratch state and `pc` unspecified and
unobservable; their values here are DESIGN CHOICE (log 4). No HDMA entry is listed: each reads as a free value (log 3). -/
def State.reset : State :=
  { regs := Regs.reset, forcedBlank := 0, blanked := 0, fbBase := 0, busy := 0, pc := ⟨0, 0⟩, fbLatch := 0,
    oam := [], map0 := [], map1 := [], bgAtlas := [], sprAtlas := [], hdma := [], fb := [],
    fbAbsent := [],
    cache0 := List.replicate 16 none, cache1 := List.replicate 16 none, wmask := List.replicate 240 0,
    main := List.replicate 240 0, sub := List.replicate 240 0, out := List.replicate 240 0,
    select := List.replicate 240 false, host := [], hostData := 0, dispatch := none }

end Sys2Proof.Machine
end

