-- ==== Sys2Proof/Machine/Ops.lean ====
section
/-!
DEFINITION. The shared operations: the updates of the state, the byte view of memory, the entries of each space, the line
buffers, the registers by number, the frame-buffer write port, and the plain accesses of the host. There is no exception to
take and none to return from (`60_exceptions.md` R320, R325), so no such operation stands here (log 18).
-/

namespace Sys2Proof.Machine

/-! ### Updates of the state, one field or one group each -/

/-- Replace the State Store registers. -/
def State.setRegs (s : State) (r : Regs) : State := { s with regs := r }
/-- Replace x[32] and x[33], which `10_state.md` R43 ties together. -/
def State.setBlanking (s : State) (f : BitVec 1) (b : BitVec 4) : State := { s with forcedBlank := f, blanked := b }
/-- Replace x[34]. -/
def State.setFbBase (s : State) (a : Nat) : State := { s with fbBase := a }
/-- Replace BUSY. -/
def State.setBusy (s : State) (b : BitVec 1) : State := { s with busy := b }
/-- Replace `pc`. -/
def State.setPc (s : State) (p : Pc) : State := { s with pc := p }
/-- Replace the latched frame-buffer base. -/
def State.setFbLatch (s : State) (a : Nat) : State := { s with fbLatch := a }
/-- Replace `OAM`. -/
def State.setOam (s : State) (m : Mem) : State := { s with oam := m }
/-- Replace `MAP0`. -/
def State.setMap0 (s : State) (m : Mem) : State := { s with map0 := m }
/-- Replace `MAP1`. -/
def State.setMap1 (s : State) (m : Mem) : State := { s with map1 := m }
/-- Replace `BGATLAS`. -/
def State.setBgAtlas (s : State) (m : Mem) : State := { s with bgAtlas := m }
/-- Replace `SPRATLAS`. -/
def State.setSprAtlas (s : State) (m : Mem) : State := { s with sprAtlas := m }
/-- Replace `HDMA`. -/
def State.setHdma (s : State) (m : Mem) : State := { s with hdma := m }
/-- Replace what the write port has stored. -/
def State.setFb (s : State) (m : Mem) : State := { s with fb := m }
/-- Replace both sprite cache lists. -/
def State.setCache (s : State) (c0 c1 : List Slot) : State := { s with cache0 := c0, cache1 := c1 }
/-- Replace `WMASK`. -/
def State.setWmask (s : State) (w : List Byte) : State := { s with wmask := w }
/-- Replace both line buffers. -/
def State.setLines (s : State) (m b : List Pixel) : State := { s with main := m, sub := b }
/-- Replace `OUT`. -/
def State.setOut (s : State) (o : List Pixel) : State := { s with out := o }
/-- Replace the select lines. -/
def State.setSelect (s : State) (l : List Bool) : State := { s with select := l }
/-- Replace the accesses the host will make. -/
def State.setHost (s : State) (h : List HostAccess) : State := { s with host := h }
/-- Replace the datum of the host's last read. -/
def State.setHostData (s : State) (d : Entry) : State := { s with hostData := d }
/-- Replace the singly dispatched word. -/
def State.setDispatch (s : State) (c : Option Code) : State := { s with dispatch := c }

/-! ### Memory: the byte view -/

/-- The byte listed at an address, if one is. -/
def Mem.get? : Mem → Nat → Option Byte
  | [], _ => none
  | (k, v) :: m, a => if a = k then some v else Mem.get? m a

/-- List byte `b` at address `a`, in its place, over any byte listed there before. -/
def Mem.put : Mem → Nat → Byte → Mem
  | [], a, b => [(a, b)]
  | (k, v) :: m, a, b =>
    if a < k then (a, b) :: (k, v) :: m
    else if a = k then (a, b) :: m
    else (k, v) :: Mem.put m a b

/-- List nothing at address `a`. -/
def Mem.erase : Mem → Nat → Mem
  | [], _ => []
  | (k, v) :: m, a => if a = k then m else (k, v) :: Mem.erase m a

/-- Write a byte to a space whose unlisted addresses read as `d`: a byte equal to that is not listed. `d = none` is a space
whose unlisted addresses hold no stated byte, and there every written byte is listed. -/
def Mem.write (d : Option Byte) (m : Mem) (a : Nat) (b : Byte) : Mem :=
  if d = some b then Mem.erase m a else Mem.put m a b

/-- The canonical form of a space whose unlisted addresses read as `d`. -/
abbrev Mem.wf (d : Option Byte) (m : Mem) : Prop :=
  m.Pairwise (fun x y => x.1 < y.1) ∧ ∀ x ∈ m, d ≠ some x.2

/-- Every listed address lies below `n`, the size of the space in bytes. -/
abbrev Mem.below (n : Nat) (m : Mem) : Prop := ∀ x ∈ m, x.1 < n

/-- What an unlisted address of `OAM`, the maps and the atlases reads as: the reset value 0 (`10_state.md` R61). -/
def storeDefault : Option Byte := some 0

/-- What an unlisted address of `HDMA` and `FB` reads as: no stated byte (`10_state.md` R58, R59). Logs 3 and 9. -/
def noDefault : Option Byte := none

/-! ### Memory: the entries of a space -/

/-- A byte of `OAM`, a map or an atlas. -/
def Mem.byte (m : Mem) (a : Nat) : Byte := (Mem.get? m a).getD 0

/-- `MemRead(SPACE:i, 2)` for `OAM`, a map or an atlas, little-endian (`20_memory.md` R70). -/
def Mem.half (m : Mem) (i : Nat) : Half := Mem.byte m (2 * i + 1) ++ Mem.byte m (2 * i)

/-- `MemWrite(SPACE:i, 2, v)` for a space of 16-bit entries. -/
def Mem.setHalf (d : Option Byte) (m : Mem) (i : Nat) (v : Half) : Mem :=
  Mem.write d (Mem.write d m (2 * i) (v.extractLsb' 0 8)) (2 * i + 1) (v.extractLsb' 8 8)

/-- A byte of the HDMA tables: the byte written there, or the free value of an unwritten one (`10_state.md` R58, log 3). -/
def Mem.hdmaByte (m : Mem) (a : Nat) : Byte := (Mem.get? m a).getD (Config.hdmaUnwritten a)

/-- `MemRead(HDMA:i, 4)`, little-endian (`20_memory.md` R70). -/
def Mem.entry (m : Mem) (i : Nat) : Entry :=
  entryOfBytes (Mem.hdmaByte m (4 * i)) (Mem.hdmaByte m (4 * i + 1)) (Mem.hdmaByte m (4 * i + 2)) (Mem.hdmaByte m (4 * i + 3))

/-- `MemWrite(HDMA:i, 4, e)`. -/
def Mem.setEntry (m : Mem) (i : Nat) (e : Entry) : Mem :=
  let m1 := Mem.write noDefault m (4 * i) (entryByte e 0)
  let m2 := Mem.write noDefault m1 (4 * i + 1) (entryByte e 1)
  let m3 := Mem.write noDefault m2 (4 * i + 2) (entryByte e 2)
  Mem.write noDefault m3 (4 * i + 3) (entryByte e 3)

/-- The pixel the write port has stored at frame-buffer pixel address `a`, if it has stored one. -/
def Mem.pixel? (m : Mem) (a : Nat) : Option Pixel :=
  match Mem.get? m (2 * a), Mem.get? m (2 * a + 1) with
  | some lo, some hi => some (hi ++ lo)
  | _, _ => none

/-- The HDMA entry of table `t` for row `row`: index `240 * t + row` (`40_hdma.md` R141). -/
def hdmaIndex (t row : Nat) : Nat := Config.hdmaLen * t + row

/-! ### Line buffers -/

/-- A row of 240 columns computed column by column (`00_scope.md` R9). -/
def row240 {α : Type} (f : Nat → α) : List α := (List.range Config.width).map f

/-- `MAIN[c]`. -/
def State.mainAt (s : State) (c : Nat) : Pixel := s.main.getD c 0

/-- `SUB[c]`. -/
def State.subAt (s : State) (c : Nat) : Pixel := s.sub.getD c 0

/-- `OUT[c]`. -/
def State.outAt (s : State) (c : Nat) : Pixel := s.out.getD c 0

/-- `WMASK[c]`. -/
def State.laneAt (s : State) (c : Nat) : Byte := s.wmask.getD c 0

/-! ### Registers by number -/

/-- The bits of x[n], 1 ≤ n ≤ 19, zero-extended; 0 for every other number (`10_state.md` R21, R41, R47). -/
def Regs.read (r : Regs) (n : Nat) : Half :=
  match n with
  | 1 => r.mainColour
  | 2 => r.subColour
  | 3 => r.win1Left
  | 4 => r.win1Right
  | 5 => r.win2Left
  | 6 => r.win2Right
  | 7 => r.bgcolWindows.zeroExtend 16
  | 8 => r.mainFlags.zeroExtend 16
  | 9 => r.cmathFade
  | 10 => r.cmathFlags.zeroExtend 16
  | 11 => r.bg0X
  | 12 => r.bg0Y
  | 13 => r.bg0Windows.zeroExtend 16
  | 14 => r.bg0Flags.zeroExtend 16
  | 15 => r.bg1X
  | 16 => r.bg1Y
  | 17 => r.bg1Windows.zeroExtend 16
  | 18 => r.bg1Flags.zeroExtend 16
  | 19 => r.hdmaEnable.zeroExtend 16
  | _ => 0

/-- `x[n] <- v` for 1 ≤ n ≤ 19, `v` truncated to the register's width; no other number names a State Store register
(`10_state.md` R21, R41, R47). -/
def Regs.write (r : Regs) (n : Nat) (v : Half) : Regs :=
  match n with
  | 1 => { r with mainColour := v }
  | 2 => { r with subColour := v }
  | 3 => { r with win1Left := v }
  | 4 => { r with win1Right := v }
  | 5 => { r with win2Left := v }
  | 6 => { r with win2Right := v }
  | 7 => { r with bgcolWindows := v.truncate 8 }
  | 8 => { r with mainFlags := v.truncate 8 }
  | 9 => { r with cmathFade := v }
  | 10 => { r with cmathFlags := v.truncate 8 }
  | 11 => { r with bg0X := v }
  | 12 => { r with bg0Y := v }
  | 13 => { r with bg0Windows := v.truncate 8 }
  | 14 => { r with bg0Flags := v.truncate 8 }
  | 15 => { r with bg1X := v }
  | 16 => { r with bg1Y := v }
  | 17 => { r with bg1Windows := v.truncate 8 }
  | 18 => { r with bg1Flags := v.truncate 8 }
  | 19 => { r with hdmaEnable := v.truncate 8 }
  | _ => r

/-- `x[n] <- v` on the State Store, as an HDMA command writes it (`40_hdma.md` R143 to R161, R166). -/
def State.writeStore (s : State) (n : Nat) (v : Half) : State := s.setRegs (s.regs.write n v)

/-! ### The frame buffer's addresses and its write port -/

/-- A frame-buffer pixel address modulo `2 ^ FB_AW` (`20_memory.md` R78). `FB_AW` is at least 14, so an address below `2 ^ 14`
is its own remainder: that case needs no value of the open parameter (log 5). -/
def fbWrap (a : Nat) : Nat := if a < 2 ^ 14 then a else a % 2 ^ Config.fbAW

/-- `MemWrite(FB:a, 2, p)` with the address modulo `2 ^ FB_AW` (`20_memory.md` R78). -/
def Mem.storePixel (m : Mem) (a : Nat) (p : Pixel) : Mem := Mem.setHalf noDefault m (fbWrap a) p

/-- Pixels stored one after another from address `a` on, in ascending order (`20_memory.md` R78). -/
def Mem.storePixels : Mem → Nat → List Pixel → Mem
  | m, _, [] => m
  | m, a, p :: ps => Mem.storePixels (Mem.storePixel m a p) (a + 1) ps

/-! ### The host's plain accesses -/

/-- The 16-bit entry `h` of a number, entry 0 its low 16 bits: how x[34], `FB_AW` bits wide, is seen by accesses that move 16 bits
(`10_state.md` R44, `20_memory.md` R71; log 10). -/
def basePiece (a h : Nat) : Half := BitVec.ofNat 16 (a / 2 ^ (16 * h))

/-- A number with its 16-bit entry `h` replaced and every other bit kept. -/
def withBasePiece (a h : Nat) (v : Half) : Nat :=
  a / 2 ^ (16 * (h + 1)) * 2 ^ (16 * (h + 1)) + v.toNat * 2 ^ (16 * h) + a % 2 ^ (16 * h)

/-- The host writes the 16-bit entry `h` of x[34]; bits beyond `FB_AW` are dropped (`10_state.md` R21). -/
def State.writeBasePiece (s : State) (h : Nat) (v : Half) : State := s.setFbBase (fbWrap (withBasePiece s.fbBase h v))

/-- A host read of register `n`, zero-extended: the stored bits, 0 for x[35] and for every number that names no register
(`10_state.md` R21, R41, R45, R46). The access moves 16 bits (`20_memory.md` R71), of x[34] its first entry (log 10). -/
def State.readReg (s : State) (n : BitVec 6) : Entry :=
  match n.toNat with
  | 32 => s.forcedBlank.zeroExtend 32
  | 33 => s.blanked.zeroExtend 32
  | 34 => (basePiece s.fbBase 0).zeroExtend 32
  | 35 => 0
  | 36 => s.busy.zeroExtend 32
  | k => (s.regs.read k).zeroExtend 32

/-- A host write of a register that is no command, 16 bits wide (`20_memory.md` R71): x[1]..x[19] and x[34] are stored, of x[34] its
first entry (log 10); x[33], x[36] and every number that names
no register ignore it (`10_state.md` R41, R43, R44, R46). x[32] and x[35] are the commands `BLANK` and `RENDER`, which
`hostCode` hands to the decoder instead (R42, R45). -/
def State.writeReg (s : State) (n : BitVec 6) (v : Entry) : State :=
  match n.toNat with
  | 34 => s.writeBasePiece 0 (v.truncate 16)
  | k => s.writeStore k (v.truncate 16)

/-- Read one entry (`20_memory.md` R71, R73): no side effect. -/
def State.readPlace (s : State) : Place → Entry
  | .reg n => s.readReg n
  | .baseHigh h => (basePiece s.fbBase (h + 1)).zeroExtend 32
  | .oam i w => (Mem.half s.oam (5 * i.toNat + w.val)).zeroExtend 32
  | .map0 k => (Mem.half s.map0 k.toNat).zeroExtend 32
  | .map1 k => (Mem.half s.map1 k.toNat).zeroExtend 32
  | .bgAtlas k => (Mem.half s.bgAtlas k.toNat).zeroExtend 32
  | .sprAtlas k => (Mem.half s.sprAtlas k.toNat).zeroExtend 32
  | .hdma t r => Mem.entry s.hdma (hdmaIndex t.toNat r.val)

/-- Write one entry (`20_memory.md` R71, R73): it stores its value and does nothing else. -/
def State.writePlace (s : State) (p : Place) (v : Entry) : State :=
  match p with
  | .reg n => s.writeReg n v
  | .baseHigh h => s.writeBasePiece (h + 1) (v.truncate 16)
  | .oam i w => s.setOam (Mem.setHalf storeDefault s.oam (5 * i.toNat + w.val) (v.truncate 16))
  | .map0 k => s.setMap0 (Mem.setHalf storeDefault s.map0 k.toNat (v.truncate 16))
  | .map1 k => s.setMap1 (Mem.setHalf storeDefault s.map1 k.toNat (v.truncate 16))
  | .bgAtlas k => s.setBgAtlas (Mem.setHalf storeDefault s.bgAtlas k.toNat (v.truncate 16))
  | .sprAtlas k => s.setSprAtlas (Mem.setHalf storeDefault s.sprAtlas k.toNat (v.truncate 16))
  | .hdma t r => s.setHdma (Mem.setEntry s.hdma (hdmaIndex t.toNat r.val) v)

/-- The command word of a host access, if it is one of the two host commands (`30_encoding.md` R119). -/
def hostCode : HostAccess → Option Code
  | .write (.reg n) v => if n = 32#6 ∨ n = 35#6 then some (.hostWrite n (v.truncate 16)) else none
  | _ => none

/-- A plain access of the host: a read puts the entry on the host's data port, a write stores it (`20_memory.md` R73). -/
def State.access (s : State) : HostAccess → State
  | .read p => s.setHostData (s.readPlace p)
  | .write p v => s.writePlace p v

end Sys2Proof.Machine
end

