-- ==== Sys2Proof/Machine/Flags.lean ====
section
/-!
DEFINITION. The flag bits of the control bytes. The compositor has no condition codes (`10_state.md` R49): these are the
control fields of the main flags (R29), the colour-math flags (R31), the background flags (R35, R39), a sprite's flags
(`30_encoding.md` R107), and the marker, bit 15 of a pixel (R105).
-/

namespace Sys2Proof.Machine

/-! ### MAIN_FLAGS, as a main key (`30_encoding.md` R111) -/

/-- `SPR0`, bit 0. -/
def keySpr0 (k : BitVec 6) : Bool := k.getLsbD 0
/-- `SPR1`, bit 1. -/
def keySpr1 (k : BitVec 6) : Bool := k.getLsbD 1
/-- `BG0`, bit 2. -/
def keyBg0 (k : BitVec 6) : Bool := k.getLsbD 2
/-- `BG1`, bit 3. -/
def keyBg1 (k : BitVec 6) : Bool := k.getLsbD 3
/-- `CMATH`, bit 4. -/
def keyCmath (k : BitVec 6) : Bool := k.getLsbD 4
/-- `BGCOLWIN`, bit 5. -/
def keyBgColWin (k : BitVec 6) : Bool := k.getLsbD 5

/-! ### CMATH_FLAGS (`30_encoding.md` R112) -/

/-- `HALF_MAIN`, bit 0. -/
def cmHalfMain (f : Byte) : Bool := f.getLsbD 0
/-- `DOUBLE_MAIN`, bit 1. -/
def cmDoubleMain (f : Byte) : Bool := f.getLsbD 1
/-- `HALF_SUB`, bit 2. -/
def cmHalfSub (f : Byte) : Bool := f.getLsbD 2
/-- `DOUBLE_SUB`, bit 3. -/
def cmDoubleSub (f : Byte) : Bool := f.getLsbD 3
/-- `ADD_SUB`, bit 4. -/
def cmAddSub (f : Byte) : Bool := f.getLsbD 4
/-- `SUB_SUB`, bit 5. -/
def cmSubSub (f : Byte) : Bool := f.getLsbD 5
/-- `FADE_EN`, bit 6. -/
def cmFade (f : Byte) : Bool := f.getLsbD 6
/-- `CMATH_EN`, bit 7. -/
def cmEnable (f : Byte) : Bool := f.getLsbD 7

/-! ### A sprite's flags (`30_encoding.md` R107, R113) -/

/-- `SPR_ENABLED`, bit 0. -/
def sprEnabled (f : Byte) : Bool := f.getLsbD 0
/-- `SPR_PRIORITY`, bit 1. -/
def sprPriority (f : Byte) : Bool := f.getLsbD 1
/-- `SPR_DOUBLE`, bit 5. -/
def sprDouble (f : Byte) : Bool := f.getLsbD 5
/-- `FX`, key bit 0 (`44_sprite_blit.md` R250). -/
def blitFlipX (q : BitVec 4) : Bool := q.getLsbD 0
/-- `FY`, key bit 1. -/
def blitFlipY (q : BitVec 4) : Bool := q.getLsbD 1
/-- `CM`, key bit 2. -/
def blitCmath (q : BitVec 4) : Bool := q.getLsbD 2
/-- `D`, key bit 3. -/
def blitDouble (q : BitVec 4) : Bool := q.getLsbD 3

/-! ### Backgrounds, the enable mask, the marker -/

/-- `BG_CMATH`, bit 0 of a background's flags (`10_state.md` R35). -/
def bgCmath (f : Byte) : Bool := f.getLsbD 0

/-- HDMA table `t` is active (`10_state.md` R40). -/
def tableEnabled (m : Byte) (t : Nat) : Bool := m.getLsbD t

/-- `m & ~(1 << t)`: the mask without table `t`'s bit (`40_hdma.md` R162). -/
def tableCleared (m : Byte) (t : Nat) : Byte := m &&& ~~~((1#8) <<< t)

/-- The marker, bit 15 of a pixel (`30_encoding.md` R105). -/
def marked (p : Pixel) : Bool := p.getLsbD 15

end Sys2Proof.Machine
end

