-- ==== Sys2Proof/Machine/Operands.lean ====
section
/-!
DEFINITION. The operand forms: a sprite's five words, a background's four registers, a tile map entry, a pixel's channels,
the section operand of a render, and the place of the row being composed.
-/

namespace Sys2Proof.Machine

/-- A sprite table entry, unpacked (`30_encoding.md` R106). -/
structure Sprite where
  x : Half
  y : Half
  width : Byte
  height : Byte
  gx : Byte
  gy : Byte
  windows : Byte
  flags : Byte
deriving DecidableEq, Repr

/-- `OAM:(5*i + w)` (`10_state.md` R50). -/
def State.oamWord (s : State) (i : Byte) (w : Nat) : Half := Mem.half s.oam (5 * i.toNat + w)

/-- `OAM[i]`, its five words unpacked (`30_encoding.md` R106). -/
def State.sprite (s : State) (i : Byte) : Sprite :=
  { x := s.oamWord i 0
    y := s.oamWord i 1
    width := (s.oamWord i 2).extractLsb' 0 8
    height := (s.oamWord i 2).extractLsb' 8 8
    gx := (s.oamWord i 3).extractLsb' 0 8
    gy := (s.oamWord i 3).extractLsb' 8 8
    windows := (s.oamWord i 4).extractLsb' 0 8
    flags := (s.oamWord i 4).extractLsb' 8 8 }

/-- A background descriptor and its tile map (`30_encoding.md` R109, `10_state.md` R52). -/
structure Background where
  x : Half
  y : Half
  windows : Byte
  flags : Byte
  map : Mem
deriving DecidableEq, Repr

/-- Background 0: x[11]..x[14] and `MAP0` (`43_composition.md` R224). -/
def State.background0 (s : State) : Background :=
  { x := s.regs.bg0X, y := s.regs.bg0Y, windows := s.regs.bg0Windows, flags := s.regs.bg0Flags, map := s.map0 }

/-- Background 1: x[15]..x[18] and `MAP1` (`43_composition.md` R225). -/
def State.background1 (s : State) : Background :=
  { x := s.regs.bg1X, y := s.regs.bg1Y, windows := s.regs.bg1Windows, flags := s.regs.bg1Flags, map := s.map1 }

/-- `TILE[4:0]`, the tile's column in the atlas (`30_encoding.md` R110). -/
def tileCol (t : Half) : Nat := (t.extractLsb' 0 5).toNat

/-- `TILE[10:5]`, the tile's row in the atlas (`30_encoding.md` R110). -/
def tileRow (t : Half) : Nat := (t.extractLsb' 5 6).toNat

/-- Channel A, `[4:0]` (`30_encoding.md` R105). -/
def chanA (p : Pixel) : Nat := (p.extractLsb' 0 5).toNat

/-- Channel B, `[9:5]`. -/
def chanB (p : Pixel) : Nat := (p.extractLsb' 5 5).toNat

/-- Channel C, `[14:10]`. -/
def chanC (p : Pixel) : Nat := (p.extractLsb' 10 5).toNat

/-- The pixel of a marker and three channels, each below 32 (`45_color_math.md` R280). -/
def packPixel (mark : Bool) (c b a : Nat) : Pixel :=
  BitVec.ofBool mark ++ BitVec.ofNat 5 c ++ BitVec.ofNat 5 b ++ BitVec.ofNat 5 a

/-- `v[1:0]`, the section a `RENDER` names (`10_state.md` R45). -/
def sectionOf (v : Half) : Nat := (v.extractLsb' 0 2).toNat

/-- `v[0]`, what a `BLANK` writes to x[32] (`10_state.md` R42). -/
def blankBit (v : Half) : BitVec 1 := v.extractLsb' 0 1

/-- `ROW`, the absolute row being processed (`10_state.md` R48). -/
def State.row (s : State) : Nat := s.pc.row.toNat

/-- The row within its section: row `60*s + i` has `i` (`20_memory.md` R78). -/
def State.rowInSection (s : State) : Nat := s.row % Config.sectionRows

end Sys2Proof.Machine
end

