-- ==== Sys2Proof/Machine/Hdma.lean ====
section
/-!
DEFINITION. The HDMA commands (`40_hdma.md`). The owning table of a command is `pc`'s `TBL` (R140, R162).
-/

namespace Sys2Proof.Machine

/-- `x[19] <- x[19] & ~(1 << t)`, `t` the owning table (R162). -/
def disableOwner (s : State) : State :=
  s.setRegs { s.regs with hdmaEnable := tableCleared s.regs.hdmaEnable s.pc.tbl.toNat }

/-- `HDMA.NOP` (R142): nothing; `value` is ignored. -/
def execHdmaNop (_value : Half) (s : State) : Result := .next s

/-- `HDMA.W.MAIN_COLOUR` (R143): x[1] <- value[15:0]. -/
def execHdmaWMainColour (value : Half) (s : State) : Result := .next (s.writeStore 1 value)

/-- `HDMA.W.SUB_COLOUR` (R144): x[2] <- value[15:0]. -/
def execHdmaWSubColour (value : Half) (s : State) : Result := .next (s.writeStore 2 value)

/-- `HDMA.W.WIN1_LEFT` (R145): x[3] <- value[15:0]. -/
def execHdmaWWin1Left (value : Half) (s : State) : Result := .next (s.writeStore 3 value)

/-- `HDMA.W.WIN1_RIGHT` (R146): x[4] <- value[15:0]. -/
def execHdmaWWin1Right (value : Half) (s : State) : Result := .next (s.writeStore 4 value)

/-- `HDMA.W.WIN2_LEFT` (R147): x[5] <- value[15:0]. -/
def execHdmaWWin2Left (value : Half) (s : State) : Result := .next (s.writeStore 5 value)

/-- `HDMA.W.WIN2_RIGHT` (R148): x[6] <- value[15:0]. -/
def execHdmaWWin2Right (value : Half) (s : State) : Result := .next (s.writeStore 6 value)

/-- `HDMA.W.BGCOL_WINDOWS` (R149): x[7] <- value[7:0]. -/
def execHdmaWBgcolWindows (value : Half) (s : State) : Result := .next (s.writeStore 7 value)

/-- `HDMA.W.MAIN_FLAGS` (R150): x[8] <- value[7:0]. -/
def execHdmaWMainFlags (value : Half) (s : State) : Result := .next (s.writeStore 8 value)

/-- `HDMA.W.CMATH_FADE` (R151): x[9] <- value[15:0]. -/
def execHdmaWCmathFade (value : Half) (s : State) : Result := .next (s.writeStore 9 value)

/-- `HDMA.W.CMATH_FLAGS` (R152): x[10] <- value[7:0]. -/
def execHdmaWCmathFlags (value : Half) (s : State) : Result := .next (s.writeStore 10 value)

/-- `HDMA.W.BG0_X` (R153): x[11] <- value[15:0]. -/
def execHdmaWBg0X (value : Half) (s : State) : Result := .next (s.writeStore 11 value)

/-- `HDMA.W.BG0_Y` (R154): x[12] <- value[15:0]. -/
def execHdmaWBg0Y (value : Half) (s : State) : Result := .next (s.writeStore 12 value)

/-- `HDMA.W.BG0_WINDOWS` (R155): x[13] <- value[7:0]. -/
def execHdmaWBg0Windows (value : Half) (s : State) : Result := .next (s.writeStore 13 value)

/-- `HDMA.W.BG0_FLAGS` (R156): x[14] <- value[7:0]. -/
def execHdmaWBg0Flags (value : Half) (s : State) : Result := .next (s.writeStore 14 value)

/-- `HDMA.W.BG1_X` (R157): x[15] <- value[15:0]. -/
def execHdmaWBg1X (value : Half) (s : State) : Result := .next (s.writeStore 15 value)

/-- `HDMA.W.BG1_Y` (R158): x[16] <- value[15:0]. -/
def execHdmaWBg1Y (value : Half) (s : State) : Result := .next (s.writeStore 16 value)

/-- `HDMA.W.BG1_WINDOWS` (R159): x[17] <- value[7:0]. -/
def execHdmaWBg1Windows (value : Half) (s : State) : Result := .next (s.writeStore 17 value)

/-- `HDMA.W.BG1_FLAGS` (R160): x[18] <- value[7:0]. -/
def execHdmaWBg1Flags (value : Half) (s : State) : Result := .next (s.writeStore 18 value)

/-- `HDMA.W.HDMA_ENABLE` (R161): x[19] <- value[7:0]. -/
def execHdmaWHdmaEnable (value : Half) (s : State) : Result := .next (s.writeStore 19 value)

/-- `HDMA.DISABLE` (R162): the owning table's bit of x[19] is cleared; `value` is ignored. -/
def execHdmaDisable (_value : Half) (s : State) : Result := .next (disableOwner s)

/-- `HDMA.RSVD`, tags 21 to 21 (R163): nothing. -/
def execHdmaRsvd21 (_tag _value : Half) (s : State) : Result := .next s

/-- `HDMA.RSVD`, tags 22 to 23 (R163): nothing. -/
def execHdmaRsvd22 (_tag _value : Half) (s : State) : Result := .next s

/-- `HDMA.RSVD`, tags 24 to 31 (R163): nothing. -/
def execHdmaRsvd24 (_tag _value : Half) (s : State) : Result := .next s

/-- `HDMA.RSVD`, tags 32 to 63 (R163): nothing. -/
def execHdmaRsvd32 (_tag _value : Half) (s : State) : Result := .next s

/-- `HDMA.RSVD`, tags 64 to 127 (R163): nothing. -/
def execHdmaRsvd64 (_tag _value : Half) (s : State) : Result := .next s

/-- `HDMA.RSVD`, tags 128 to 255 (R163): nothing. -/
def execHdmaRsvd128 (_tag _value : Half) (s : State) : Result := .next s

/-- `HDMA.RSVD`, tags 256 to 511 (R163): nothing. -/
def execHdmaRsvd256 (_tag _value : Half) (s : State) : Result := .next s

/-- `HDMA.RSVD`, tags 512 to 1023 (R163): nothing. -/
def execHdmaRsvd512 (_tag _value : Half) (s : State) : Result := .next s

/-- `HDMA.RSVD`, tags 1024 to 2047 (R163): nothing. -/
def execHdmaRsvd1024 (_tag _value : Half) (s : State) : Result := .next s

/-- `HDMA.RSVD`, tags 2048 to 4095 (R163): nothing. -/
def execHdmaRsvd2048 (_tag _value : Half) (s : State) : Result := .next s

/-- `HDMA.RSVD`, tags 4096 to 8191 (R163): nothing. -/
def execHdmaRsvd4096 (_tag _value : Half) (s : State) : Result := .next s

/-- `HDMA.RSVD`, tags 8192 to 16383 (R163): nothing. -/
def execHdmaRsvd8192 (_tag _value : Half) (s : State) : Result := .next s

/-- `HDMA.RSVD`, tags 16384 to 32767 (R163): nothing. -/
def execHdmaRsvd16384 (_tag _value : Half) (s : State) : Result := .next s

/-- `HDMA.RSVD`, tags 32768 to 65535 (R163): nothing. -/
def execHdmaRsvd32768 (_tag _value : Half) (s : State) : Result := .next s

end Sys2Proof.Machine
end

