-- ==== Sys2Proof/Machine/HostCommand.lean ====
section
/-!
DEFINITION. The two host commands and the forced-blank fast path (`46_forced_blank_and_render.md`).
-/

namespace Sys2Proof.Machine

/-- Section `t` is already blanked: bit `t` of x[33] (R301). -/
def sectionBlanked (s : State) (t : Nat) : Bool := s.blanked.getLsbD t

/-- `ForcedBlank(t, B)` (R301): 14400 zeros from `B` on and bit `t` of x[33] set, unless the section is blanked already. -/
def forcedBlank (t base : Nat) (s : State) : State :=
  if sectionBlanked s t then s
  else
    (s.setFb (Mem.storePixels s.fb base (List.replicate Config.sectionPixels 0))).setBlanking
      s.forcedBlank (s.blanked ||| ((1#4) <<< t))

/-- A render of section `t` is accepted: `B` is latched (R300) and `pc` goes to the section's first row and first table
(`10_state.md` R48). -/
def acceptRender (t : Nat) (s : State) : State :=
  (s.setFbLatch s.fbBase).setPc ⟨BitVec.ofNat 8 (Config.sectionRows * t), 0⟩

/-- The range takes in pixel address `a`. -/
def FbRange.takes (r : FbRange) (a : Nat) : Bool := decide (r.first ≤ a) && decide (a < r.first + r.count)

/-- Each of the 14400 addresses from `base` on is frame-buffer memory of the platform (`20_memory.md` R78,
`60_exceptions.md` R322). -/
def State.regionPresent (s : State) (base : Nat) : Bool :=
  s.fbAbsent.all fun r => (List.range Config.sectionPixels).all fun k => !r.takes (fbWrap (base + k))

/-- `RENDER` (R300, R303). Under forced blank the section is cleared within the command and `BUSY` is 0 after it (R301);
otherwise `BUSY` becomes 1 and the sequencer's steps render the section from `pc` on (R45, R46). A second `RENDER` while
`BUSY = 1` is refused (`20_memory.md` R79), and so is a launch whose 14400 addresses are not all frame-buffer memory
(`60_exceptions.md` R322). Logs 8, 11, 17 and 28. -/
def execRender (v : Half) (s : State) : Result :=
  if s.busy = 1#1 then .refused .hostAccessWhileBusy
  else if s.regionPresent s.fbBase = false then .refused .frameBufferAbsent
  else if s.forcedBlank = 1#1 then .next (forcedBlank (sectionOf v) s.fbBase (acceptRender (sectionOf v) s))
  else .next ((acceptRender (sectionOf v) s).setBusy 1#1)

/-- `BLANK` (R302): x[32] takes the bit, and writing 0 clears x[33]. A write while `BUSY = 1` is refused
(`20_memory.md` R79). -/
def execBlank (v : Half) (s : State) : Result :=
  if s.busy = 1#1 then .refused .hostAccessWhileBusy
  else .next (s.setBlanking (blankBit v) (if blankBit v = 0#1 then 0 else s.blanked))

end Sys2Proof.Machine
end

