-- ==== Sys2Proof/Machine/Cmath.lean ====
section
/-!
DEFINITION. The colour-blend ALU (`45_color_math.md`).
-/

namespace Sys2Proof.Machine

/-- One stage: `g v` when its bit is set, else `v` (R281). -/
def stage (on : Bool) (g : Nat → Nat) (v : Nat) : Nat := if on then g v else v

/-- `min(31, 2*v)` (R272, R274). -/
def double31 (v : Nat) : Nat := min 31 (2 * v)

/-- `v >> 1` (R273, R275). -/
def half31 (v : Nat) : Nat := v / 2

/-- `min(31, m + s)` (R276). -/
def add31 (s m : Nat) : Nat := min 31 (m + s)

/-- `max(0, m - s)`: natural subtraction stops at 0 (R277). -/
def sub31 (s m : Nat) : Nat := m - s

/-- `(m * L) >> 8` (R278). -/
def fade31 (lvl m : Nat) : Nat := m * lvl / 256

/-- `L = min(zext_16(x[9]), 256)` (R278). -/
def State.fadeLevel (s : State) : Nat := min s.regs.cmathFade.toNat 256

/-- The sub operand after DOUBLE_SUB and HALF_SUB (R274, R275). -/
def scaledSub (f : Byte) (s : Nat) : Nat := stage (cmHalfSub f) half31 (stage (cmDoubleSub f) double31 s)

/-- The main operand after DOUBLE_MAIN and HALF_MAIN (R272, R273). -/
def scaledMain (f : Byte) (m : Nat) : Nat := stage (cmHalfMain f) half31 (stage (cmDoubleMain f) double31 m)

/-- `Blend(m, s, f)` with fade level `lvl`: the stages in their fixed order (R281). -/
def blend (f : Byte) (lvl m s : Nat) : Nat :=
  let s' := scaledSub f s
  stage (cmFade f) (fade31 lvl) (stage (cmSubSub f) (sub31 s') (stage (cmAddSub f) (add31 s') (scaledMain f m)))

/-- One column of `CMath(f)` (R270, R271, R280): a pixel that is not marked, or any pixel without CMATH_EN, passes. -/
def cmathPixel (f : Byte) (lvl : Nat) (m s : Pixel) : Pixel :=
  if cmEnable f && marked m then
    packPixel (marked m) (blend f lvl (chanC m) (chanC s)) (blend f lvl (chanB m) (chanB s)) (blend f lvl (chanA m) (chanA s))
  else m

/-- `OUT <- CMath(f)` (R270). -/
def cmathRow (f : Byte) (s : State) : State :=
  s.setOut (row240 fun c => cmathPixel f s.fadeLevel (s.mainAt c) (s.subAt c))

/-! ### The 256 colour-math microcodes -/

/-- `CMATH.00` (R281): none. -/
def execCmath00 (s : State) : Result := .next (cmathRow 0x00#8 s)

/-- `CMATH.01` (R281): HALF_MAIN. -/
def execCmath01 (s : State) : Result := .next (cmathRow 0x01#8 s)

/-- `CMATH.02` (R281): DOUBLE_MAIN. -/
def execCmath02 (s : State) : Result := .next (cmathRow 0x02#8 s)

/-- `CMATH.03` (R281): HALF_MAIN DOUBLE_MAIN. -/
def execCmath03 (s : State) : Result := .next (cmathRow 0x03#8 s)

/-- `CMATH.04` (R281): HALF_SUB. -/
def execCmath04 (s : State) : Result := .next (cmathRow 0x04#8 s)

/-- `CMATH.05` (R281): HALF_MAIN HALF_SUB. -/
def execCmath05 (s : State) : Result := .next (cmathRow 0x05#8 s)

/-- `CMATH.06` (R281): DOUBLE_MAIN HALF_SUB. -/
def execCmath06 (s : State) : Result := .next (cmathRow 0x06#8 s)

/-- `CMATH.07` (R281): HALF_MAIN DOUBLE_MAIN HALF_SUB. -/
def execCmath07 (s : State) : Result := .next (cmathRow 0x07#8 s)

/-- `CMATH.08` (R281): DOUBLE_SUB. -/
def execCmath08 (s : State) : Result := .next (cmathRow 0x08#8 s)

/-- `CMATH.09` (R281): HALF_MAIN DOUBLE_SUB. -/
def execCmath09 (s : State) : Result := .next (cmathRow 0x09#8 s)

/-- `CMATH.0A` (R281): DOUBLE_MAIN DOUBLE_SUB. -/
def execCmath0A (s : State) : Result := .next (cmathRow 0x0A#8 s)

/-- `CMATH.0B` (R281): HALF_MAIN DOUBLE_MAIN DOUBLE_SUB. -/
def execCmath0B (s : State) : Result := .next (cmathRow 0x0B#8 s)

/-- `CMATH.0C` (R281): HALF_SUB DOUBLE_SUB. -/
def execCmath0C (s : State) : Result := .next (cmathRow 0x0C#8 s)

/-- `CMATH.0D` (R281): HALF_MAIN HALF_SUB DOUBLE_SUB. -/
def execCmath0D (s : State) : Result := .next (cmathRow 0x0D#8 s)

/-- `CMATH.0E` (R281): DOUBLE_MAIN HALF_SUB DOUBLE_SUB. -/
def execCmath0E (s : State) : Result := .next (cmathRow 0x0E#8 s)

/-- `CMATH.0F` (R281): HALF_MAIN DOUBLE_MAIN HALF_SUB DOUBLE_SUB. -/
def execCmath0F (s : State) : Result := .next (cmathRow 0x0F#8 s)

/-- `CMATH.10` (R281): ADD_SUB. -/
def execCmath10 (s : State) : Result := .next (cmathRow 0x10#8 s)

/-- `CMATH.11` (R281): HALF_MAIN ADD_SUB. -/
def execCmath11 (s : State) : Result := .next (cmathRow 0x11#8 s)

/-- `CMATH.12` (R281): DOUBLE_MAIN ADD_SUB. -/
def execCmath12 (s : State) : Result := .next (cmathRow 0x12#8 s)

/-- `CMATH.13` (R281): HALF_MAIN DOUBLE_MAIN ADD_SUB. -/
def execCmath13 (s : State) : Result := .next (cmathRow 0x13#8 s)

/-- `CMATH.14` (R281): HALF_SUB ADD_SUB. -/
def execCmath14 (s : State) : Result := .next (cmathRow 0x14#8 s)

/-- `CMATH.15` (R281): HALF_MAIN HALF_SUB ADD_SUB. -/
def execCmath15 (s : State) : Result := .next (cmathRow 0x15#8 s)

/-- `CMATH.16` (R281): DOUBLE_MAIN HALF_SUB ADD_SUB. -/
def execCmath16 (s : State) : Result := .next (cmathRow 0x16#8 s)

/-- `CMATH.17` (R281): HALF_MAIN DOUBLE_MAIN HALF_SUB ADD_SUB. -/
def execCmath17 (s : State) : Result := .next (cmathRow 0x17#8 s)

/-- `CMATH.18` (R281): DOUBLE_SUB ADD_SUB. -/
def execCmath18 (s : State) : Result := .next (cmathRow 0x18#8 s)

/-- `CMATH.19` (R281): HALF_MAIN DOUBLE_SUB ADD_SUB. -/
def execCmath19 (s : State) : Result := .next (cmathRow 0x19#8 s)

/-- `CMATH.1A` (R281): DOUBLE_MAIN DOUBLE_SUB ADD_SUB. -/
def execCmath1A (s : State) : Result := .next (cmathRow 0x1A#8 s)

/-- `CMATH.1B` (R281): HALF_MAIN DOUBLE_MAIN DOUBLE_SUB ADD_SUB. -/
def execCmath1B (s : State) : Result := .next (cmathRow 0x1B#8 s)

/-- `CMATH.1C` (R281): HALF_SUB DOUBLE_SUB ADD_SUB. -/
def execCmath1C (s : State) : Result := .next (cmathRow 0x1C#8 s)

/-- `CMATH.1D` (R281): HALF_MAIN HALF_SUB DOUBLE_SUB ADD_SUB. -/
def execCmath1D (s : State) : Result := .next (cmathRow 0x1D#8 s)

/-- `CMATH.1E` (R281): DOUBLE_MAIN HALF_SUB DOUBLE_SUB ADD_SUB. -/
def execCmath1E (s : State) : Result := .next (cmathRow 0x1E#8 s)

/-- `CMATH.1F` (R281): HALF_MAIN DOUBLE_MAIN HALF_SUB DOUBLE_SUB ADD_SUB. -/
def execCmath1F (s : State) : Result := .next (cmathRow 0x1F#8 s)

/-- `CMATH.20` (R281): SUB_SUB. -/
def execCmath20 (s : State) : Result := .next (cmathRow 0x20#8 s)

/-- `CMATH.21` (R281): HALF_MAIN SUB_SUB. -/
def execCmath21 (s : State) : Result := .next (cmathRow 0x21#8 s)

/-- `CMATH.22` (R281): DOUBLE_MAIN SUB_SUB. -/
def execCmath22 (s : State) : Result := .next (cmathRow 0x22#8 s)

/-- `CMATH.23` (R281): HALF_MAIN DOUBLE_MAIN SUB_SUB. -/
def execCmath23 (s : State) : Result := .next (cmathRow 0x23#8 s)

/-- `CMATH.24` (R281): HALF_SUB SUB_SUB. -/
def execCmath24 (s : State) : Result := .next (cmathRow 0x24#8 s)

/-- `CMATH.25` (R281): HALF_MAIN HALF_SUB SUB_SUB. -/
def execCmath25 (s : State) : Result := .next (cmathRow 0x25#8 s)

/-- `CMATH.26` (R281): DOUBLE_MAIN HALF_SUB SUB_SUB. -/
def execCmath26 (s : State) : Result := .next (cmathRow 0x26#8 s)

/-- `CMATH.27` (R281): HALF_MAIN DOUBLE_MAIN HALF_SUB SUB_SUB. -/
def execCmath27 (s : State) : Result := .next (cmathRow 0x27#8 s)

/-- `CMATH.28` (R281): DOUBLE_SUB SUB_SUB. -/
def execCmath28 (s : State) : Result := .next (cmathRow 0x28#8 s)

/-- `CMATH.29` (R281): HALF_MAIN DOUBLE_SUB SUB_SUB. -/
def execCmath29 (s : State) : Result := .next (cmathRow 0x29#8 s)

/-- `CMATH.2A` (R281): DOUBLE_MAIN DOUBLE_SUB SUB_SUB. -/
def execCmath2A (s : State) : Result := .next (cmathRow 0x2A#8 s)

/-- `CMATH.2B` (R281): HALF_MAIN DOUBLE_MAIN DOUBLE_SUB SUB_SUB. -/
def execCmath2B (s : State) : Result := .next (cmathRow 0x2B#8 s)

/-- `CMATH.2C` (R281): HALF_SUB DOUBLE_SUB SUB_SUB. -/
def execCmath2C (s : State) : Result := .next (cmathRow 0x2C#8 s)

/-- `CMATH.2D` (R281): HALF_MAIN HALF_SUB DOUBLE_SUB SUB_SUB. -/
def execCmath2D (s : State) : Result := .next (cmathRow 0x2D#8 s)

/-- `CMATH.2E` (R281): DOUBLE_MAIN HALF_SUB DOUBLE_SUB SUB_SUB. -/
def execCmath2E (s : State) : Result := .next (cmathRow 0x2E#8 s)

/-- `CMATH.2F` (R281): HALF_MAIN DOUBLE_MAIN HALF_SUB DOUBLE_SUB SUB_SUB. -/
def execCmath2F (s : State) : Result := .next (cmathRow 0x2F#8 s)

/-- `CMATH.30` (R281): ADD_SUB SUB_SUB. -/
def execCmath30 (s : State) : Result := .next (cmathRow 0x30#8 s)

/-- `CMATH.31` (R281): HALF_MAIN ADD_SUB SUB_SUB. -/
def execCmath31 (s : State) : Result := .next (cmathRow 0x31#8 s)

/-- `CMATH.32` (R281): DOUBLE_MAIN ADD_SUB SUB_SUB. -/
def execCmath32 (s : State) : Result := .next (cmathRow 0x32#8 s)

/-- `CMATH.33` (R281): HALF_MAIN DOUBLE_MAIN ADD_SUB SUB_SUB. -/
def execCmath33 (s : State) : Result := .next (cmathRow 0x33#8 s)

/-- `CMATH.34` (R281): HALF_SUB ADD_SUB SUB_SUB. -/
def execCmath34 (s : State) : Result := .next (cmathRow 0x34#8 s)

/-- `CMATH.35` (R281): HALF_MAIN HALF_SUB ADD_SUB SUB_SUB. -/
def execCmath35 (s : State) : Result := .next (cmathRow 0x35#8 s)

/-- `CMATH.36` (R281): DOUBLE_MAIN HALF_SUB ADD_SUB SUB_SUB. -/
def execCmath36 (s : State) : Result := .next (cmathRow 0x36#8 s)

/-- `CMATH.37` (R281): HALF_MAIN DOUBLE_MAIN HALF_SUB ADD_SUB SUB_SUB. -/
def execCmath37 (s : State) : Result := .next (cmathRow 0x37#8 s)

/-- `CMATH.38` (R281): DOUBLE_SUB ADD_SUB SUB_SUB. -/
def execCmath38 (s : State) : Result := .next (cmathRow 0x38#8 s)

/-- `CMATH.39` (R281): HALF_MAIN DOUBLE_SUB ADD_SUB SUB_SUB. -/
def execCmath39 (s : State) : Result := .next (cmathRow 0x39#8 s)

/-- `CMATH.3A` (R281): DOUBLE_MAIN DOUBLE_SUB ADD_SUB SUB_SUB. -/
def execCmath3A (s : State) : Result := .next (cmathRow 0x3A#8 s)

/-- `CMATH.3B` (R281): HALF_MAIN DOUBLE_MAIN DOUBLE_SUB ADD_SUB SUB_SUB. -/
def execCmath3B (s : State) : Result := .next (cmathRow 0x3B#8 s)

/-- `CMATH.3C` (R281): HALF_SUB DOUBLE_SUB ADD_SUB SUB_SUB. -/
def execCmath3C (s : State) : Result := .next (cmathRow 0x3C#8 s)

/-- `CMATH.3D` (R281): HALF_MAIN HALF_SUB DOUBLE_SUB ADD_SUB SUB_SUB. -/
def execCmath3D (s : State) : Result := .next (cmathRow 0x3D#8 s)

/-- `CMATH.3E` (R281): DOUBLE_MAIN HALF_SUB DOUBLE_SUB ADD_SUB SUB_SUB. -/
def execCmath3E (s : State) : Result := .next (cmathRow 0x3E#8 s)

/-- `CMATH.3F` (R281): HALF_MAIN DOUBLE_MAIN HALF_SUB DOUBLE_SUB ADD_SUB SUB_SUB. -/
def execCmath3F (s : State) : Result := .next (cmathRow 0x3F#8 s)

/-- `CMATH.40` (R281): FADE_EN. -/
def execCmath40 (s : State) : Result := .next (cmathRow 0x40#8 s)

/-- `CMATH.41` (R281): HALF_MAIN FADE_EN. -/
def execCmath41 (s : State) : Result := .next (cmathRow 0x41#8 s)

/-- `CMATH.42` (R281): DOUBLE_MAIN FADE_EN. -/
def execCmath42 (s : State) : Result := .next (cmathRow 0x42#8 s)

/-- `CMATH.43` (R281): HALF_MAIN DOUBLE_MAIN FADE_EN. -/
def execCmath43 (s : State) : Result := .next (cmathRow 0x43#8 s)

/-- `CMATH.44` (R281): HALF_SUB FADE_EN. -/
def execCmath44 (s : State) : Result := .next (cmathRow 0x44#8 s)

/-- `CMATH.45` (R281): HALF_MAIN HALF_SUB FADE_EN. -/
def execCmath45 (s : State) : Result := .next (cmathRow 0x45#8 s)

/-- `CMATH.46` (R281): DOUBLE_MAIN HALF_SUB FADE_EN. -/
def execCmath46 (s : State) : Result := .next (cmathRow 0x46#8 s)

/-- `CMATH.47` (R281): HALF_MAIN DOUBLE_MAIN HALF_SUB FADE_EN. -/
def execCmath47 (s : State) : Result := .next (cmathRow 0x47#8 s)

/-- `CMATH.48` (R281): DOUBLE_SUB FADE_EN. -/
def execCmath48 (s : State) : Result := .next (cmathRow 0x48#8 s)

/-- `CMATH.49` (R281): HALF_MAIN DOUBLE_SUB FADE_EN. -/
def execCmath49 (s : State) : Result := .next (cmathRow 0x49#8 s)

/-- `CMATH.4A` (R281): DOUBLE_MAIN DOUBLE_SUB FADE_EN. -/
def execCmath4A (s : State) : Result := .next (cmathRow 0x4A#8 s)

/-- `CMATH.4B` (R281): HALF_MAIN DOUBLE_MAIN DOUBLE_SUB FADE_EN. -/
def execCmath4B (s : State) : Result := .next (cmathRow 0x4B#8 s)

/-- `CMATH.4C` (R281): HALF_SUB DOUBLE_SUB FADE_EN. -/
def execCmath4C (s : State) : Result := .next (cmathRow 0x4C#8 s)

/-- `CMATH.4D` (R281): HALF_MAIN HALF_SUB DOUBLE_SUB FADE_EN. -/
def execCmath4D (s : State) : Result := .next (cmathRow 0x4D#8 s)

/-- `CMATH.4E` (R281): DOUBLE_MAIN HALF_SUB DOUBLE_SUB FADE_EN. -/
def execCmath4E (s : State) : Result := .next (cmathRow 0x4E#8 s)

/-- `CMATH.4F` (R281): HALF_MAIN DOUBLE_MAIN HALF_SUB DOUBLE_SUB FADE_EN. -/
def execCmath4F (s : State) : Result := .next (cmathRow 0x4F#8 s)

/-- `CMATH.50` (R281): ADD_SUB FADE_EN. -/
def execCmath50 (s : State) : Result := .next (cmathRow 0x50#8 s)

/-- `CMATH.51` (R281): HALF_MAIN ADD_SUB FADE_EN. -/
def execCmath51 (s : State) : Result := .next (cmathRow 0x51#8 s)

/-- `CMATH.52` (R281): DOUBLE_MAIN ADD_SUB FADE_EN. -/
def execCmath52 (s : State) : Result := .next (cmathRow 0x52#8 s)

/-- `CMATH.53` (R281): HALF_MAIN DOUBLE_MAIN ADD_SUB FADE_EN. -/
def execCmath53 (s : State) : Result := .next (cmathRow 0x53#8 s)

/-- `CMATH.54` (R281): HALF_SUB ADD_SUB FADE_EN. -/
def execCmath54 (s : State) : Result := .next (cmathRow 0x54#8 s)

/-- `CMATH.55` (R281): HALF_MAIN HALF_SUB ADD_SUB FADE_EN. -/
def execCmath55 (s : State) : Result := .next (cmathRow 0x55#8 s)

/-- `CMATH.56` (R281): DOUBLE_MAIN HALF_SUB ADD_SUB FADE_EN. -/
def execCmath56 (s : State) : Result := .next (cmathRow 0x56#8 s)

/-- `CMATH.57` (R281): HALF_MAIN DOUBLE_MAIN HALF_SUB ADD_SUB FADE_EN. -/
def execCmath57 (s : State) : Result := .next (cmathRow 0x57#8 s)

/-- `CMATH.58` (R281): DOUBLE_SUB ADD_SUB FADE_EN. -/
def execCmath58 (s : State) : Result := .next (cmathRow 0x58#8 s)

/-- `CMATH.59` (R281): HALF_MAIN DOUBLE_SUB ADD_SUB FADE_EN. -/
def execCmath59 (s : State) : Result := .next (cmathRow 0x59#8 s)

/-- `CMATH.5A` (R281): DOUBLE_MAIN DOUBLE_SUB ADD_SUB FADE_EN. -/
def execCmath5A (s : State) : Result := .next (cmathRow 0x5A#8 s)

/-- `CMATH.5B` (R281): HALF_MAIN DOUBLE_MAIN DOUBLE_SUB ADD_SUB FADE_EN. -/
def execCmath5B (s : State) : Result := .next (cmathRow 0x5B#8 s)

/-- `CMATH.5C` (R281): HALF_SUB DOUBLE_SUB ADD_SUB FADE_EN. -/
def execCmath5C (s : State) : Result := .next (cmathRow 0x5C#8 s)

/-- `CMATH.5D` (R281): HALF_MAIN HALF_SUB DOUBLE_SUB ADD_SUB FADE_EN. -/
def execCmath5D (s : State) : Result := .next (cmathRow 0x5D#8 s)

/-- `CMATH.5E` (R281): DOUBLE_MAIN HALF_SUB DOUBLE_SUB ADD_SUB FADE_EN. -/
def execCmath5E (s : State) : Result := .next (cmathRow 0x5E#8 s)

/-- `CMATH.5F` (R281): HALF_MAIN DOUBLE_MAIN HALF_SUB DOUBLE_SUB ADD_SUB FADE_EN. -/
def execCmath5F (s : State) : Result := .next (cmathRow 0x5F#8 s)

/-- `CMATH.60` (R281): SUB_SUB FADE_EN. -/
def execCmath60 (s : State) : Result := .next (cmathRow 0x60#8 s)

/-- `CMATH.61` (R281): HALF_MAIN SUB_SUB FADE_EN. -/
def execCmath61 (s : State) : Result := .next (cmathRow 0x61#8 s)

/-- `CMATH.62` (R281): DOUBLE_MAIN SUB_SUB FADE_EN. -/
def execCmath62 (s : State) : Result := .next (cmathRow 0x62#8 s)

/-- `CMATH.63` (R281): HALF_MAIN DOUBLE_MAIN SUB_SUB FADE_EN. -/
def execCmath63 (s : State) : Result := .next (cmathRow 0x63#8 s)

/-- `CMATH.64` (R281): HALF_SUB SUB_SUB FADE_EN. -/
def execCmath64 (s : State) : Result := .next (cmathRow 0x64#8 s)

/-- `CMATH.65` (R281): HALF_MAIN HALF_SUB SUB_SUB FADE_EN. -/
def execCmath65 (s : State) : Result := .next (cmathRow 0x65#8 s)

/-- `CMATH.66` (R281): DOUBLE_MAIN HALF_SUB SUB_SUB FADE_EN. -/
def execCmath66 (s : State) : Result := .next (cmathRow 0x66#8 s)

/-- `CMATH.67` (R281): HALF_MAIN DOUBLE_MAIN HALF_SUB SUB_SUB FADE_EN. -/
def execCmath67 (s : State) : Result := .next (cmathRow 0x67#8 s)

/-- `CMATH.68` (R281): DOUBLE_SUB SUB_SUB FADE_EN. -/
def execCmath68 (s : State) : Result := .next (cmathRow 0x68#8 s)

/-- `CMATH.69` (R281): HALF_MAIN DOUBLE_SUB SUB_SUB FADE_EN. -/
def execCmath69 (s : State) : Result := .next (cmathRow 0x69#8 s)

/-- `CMATH.6A` (R281): DOUBLE_MAIN DOUBLE_SUB SUB_SUB FADE_EN. -/
def execCmath6A (s : State) : Result := .next (cmathRow 0x6A#8 s)

/-- `CMATH.6B` (R281): HALF_MAIN DOUBLE_MAIN DOUBLE_SUB SUB_SUB FADE_EN. -/
def execCmath6B (s : State) : Result := .next (cmathRow 0x6B#8 s)

/-- `CMATH.6C` (R281): HALF_SUB DOUBLE_SUB SUB_SUB FADE_EN. -/
def execCmath6C (s : State) : Result := .next (cmathRow 0x6C#8 s)

/-- `CMATH.6D` (R281): HALF_MAIN HALF_SUB DOUBLE_SUB SUB_SUB FADE_EN. -/
def execCmath6D (s : State) : Result := .next (cmathRow 0x6D#8 s)

/-- `CMATH.6E` (R281): DOUBLE_MAIN HALF_SUB DOUBLE_SUB SUB_SUB FADE_EN. -/
def execCmath6E (s : State) : Result := .next (cmathRow 0x6E#8 s)

/-- `CMATH.6F` (R281): HALF_MAIN DOUBLE_MAIN HALF_SUB DOUBLE_SUB SUB_SUB FADE_EN. -/
def execCmath6F (s : State) : Result := .next (cmathRow 0x6F#8 s)

/-- `CMATH.70` (R281): ADD_SUB SUB_SUB FADE_EN. -/
def execCmath70 (s : State) : Result := .next (cmathRow 0x70#8 s)

/-- `CMATH.71` (R281): HALF_MAIN ADD_SUB SUB_SUB FADE_EN. -/
def execCmath71 (s : State) : Result := .next (cmathRow 0x71#8 s)

/-- `CMATH.72` (R281): DOUBLE_MAIN ADD_SUB SUB_SUB FADE_EN. -/
def execCmath72 (s : State) : Result := .next (cmathRow 0x72#8 s)

/-- `CMATH.73` (R281): HALF_MAIN DOUBLE_MAIN ADD_SUB SUB_SUB FADE_EN. -/
def execCmath73 (s : State) : Result := .next (cmathRow 0x73#8 s)

/-- `CMATH.74` (R281): HALF_SUB ADD_SUB SUB_SUB FADE_EN. -/
def execCmath74 (s : State) : Result := .next (cmathRow 0x74#8 s)

/-- `CMATH.75` (R281): HALF_MAIN HALF_SUB ADD_SUB SUB_SUB FADE_EN. -/
def execCmath75 (s : State) : Result := .next (cmathRow 0x75#8 s)

/-- `CMATH.76` (R281): DOUBLE_MAIN HALF_SUB ADD_SUB SUB_SUB FADE_EN. -/
def execCmath76 (s : State) : Result := .next (cmathRow 0x76#8 s)

/-- `CMATH.77` (R281): HALF_MAIN DOUBLE_MAIN HALF_SUB ADD_SUB SUB_SUB FADE_EN. -/
def execCmath77 (s : State) : Result := .next (cmathRow 0x77#8 s)

/-- `CMATH.78` (R281): DOUBLE_SUB ADD_SUB SUB_SUB FADE_EN. -/
def execCmath78 (s : State) : Result := .next (cmathRow 0x78#8 s)

/-- `CMATH.79` (R281): HALF_MAIN DOUBLE_SUB ADD_SUB SUB_SUB FADE_EN. -/
def execCmath79 (s : State) : Result := .next (cmathRow 0x79#8 s)

/-- `CMATH.7A` (R281): DOUBLE_MAIN DOUBLE_SUB ADD_SUB SUB_SUB FADE_EN. -/
def execCmath7A (s : State) : Result := .next (cmathRow 0x7A#8 s)

/-- `CMATH.7B` (R281): HALF_MAIN DOUBLE_MAIN DOUBLE_SUB ADD_SUB SUB_SUB FADE_EN. -/
def execCmath7B (s : State) : Result := .next (cmathRow 0x7B#8 s)

/-- `CMATH.7C` (R281): HALF_SUB DOUBLE_SUB ADD_SUB SUB_SUB FADE_EN. -/
def execCmath7C (s : State) : Result := .next (cmathRow 0x7C#8 s)

/-- `CMATH.7D` (R281): HALF_MAIN HALF_SUB DOUBLE_SUB ADD_SUB SUB_SUB FADE_EN. -/
def execCmath7D (s : State) : Result := .next (cmathRow 0x7D#8 s)

/-- `CMATH.7E` (R281): DOUBLE_MAIN HALF_SUB DOUBLE_SUB ADD_SUB SUB_SUB FADE_EN. -/
def execCmath7E (s : State) : Result := .next (cmathRow 0x7E#8 s)

/-- `CMATH.7F` (R281): HALF_MAIN DOUBLE_MAIN HALF_SUB DOUBLE_SUB ADD_SUB SUB_SUB FADE_EN. -/
def execCmath7F (s : State) : Result := .next (cmathRow 0x7F#8 s)

/-- `CMATH.80` (R281): CMATH_EN. -/
def execCmath80 (s : State) : Result := .next (cmathRow 0x80#8 s)

/-- `CMATH.81` (R281): HALF_MAIN CMATH_EN. -/
def execCmath81 (s : State) : Result := .next (cmathRow 0x81#8 s)

/-- `CMATH.82` (R281): DOUBLE_MAIN CMATH_EN. -/
def execCmath82 (s : State) : Result := .next (cmathRow 0x82#8 s)

/-- `CMATH.83` (R281): HALF_MAIN DOUBLE_MAIN CMATH_EN. -/
def execCmath83 (s : State) : Result := .next (cmathRow 0x83#8 s)

/-- `CMATH.84` (R281): HALF_SUB CMATH_EN. -/
def execCmath84 (s : State) : Result := .next (cmathRow 0x84#8 s)

/-- `CMATH.85` (R281): HALF_MAIN HALF_SUB CMATH_EN. -/
def execCmath85 (s : State) : Result := .next (cmathRow 0x85#8 s)

/-- `CMATH.86` (R281): DOUBLE_MAIN HALF_SUB CMATH_EN. -/
def execCmath86 (s : State) : Result := .next (cmathRow 0x86#8 s)

/-- `CMATH.87` (R281): HALF_MAIN DOUBLE_MAIN HALF_SUB CMATH_EN. -/
def execCmath87 (s : State) : Result := .next (cmathRow 0x87#8 s)

/-- `CMATH.88` (R281): DOUBLE_SUB CMATH_EN. -/
def execCmath88 (s : State) : Result := .next (cmathRow 0x88#8 s)

/-- `CMATH.89` (R281): HALF_MAIN DOUBLE_SUB CMATH_EN. -/
def execCmath89 (s : State) : Result := .next (cmathRow 0x89#8 s)

/-- `CMATH.8A` (R281): DOUBLE_MAIN DOUBLE_SUB CMATH_EN. -/
def execCmath8A (s : State) : Result := .next (cmathRow 0x8A#8 s)

/-- `CMATH.8B` (R281): HALF_MAIN DOUBLE_MAIN DOUBLE_SUB CMATH_EN. -/
def execCmath8B (s : State) : Result := .next (cmathRow 0x8B#8 s)

/-- `CMATH.8C` (R281): HALF_SUB DOUBLE_SUB CMATH_EN. -/
def execCmath8C (s : State) : Result := .next (cmathRow 0x8C#8 s)

/-- `CMATH.8D` (R281): HALF_MAIN HALF_SUB DOUBLE_SUB CMATH_EN. -/
def execCmath8D (s : State) : Result := .next (cmathRow 0x8D#8 s)

/-- `CMATH.8E` (R281): DOUBLE_MAIN HALF_SUB DOUBLE_SUB CMATH_EN. -/
def execCmath8E (s : State) : Result := .next (cmathRow 0x8E#8 s)

/-- `CMATH.8F` (R281): HALF_MAIN DOUBLE_MAIN HALF_SUB DOUBLE_SUB CMATH_EN. -/
def execCmath8F (s : State) : Result := .next (cmathRow 0x8F#8 s)

/-- `CMATH.90` (R281): ADD_SUB CMATH_EN. -/
def execCmath90 (s : State) : Result := .next (cmathRow 0x90#8 s)

/-- `CMATH.91` (R281): HALF_MAIN ADD_SUB CMATH_EN. -/
def execCmath91 (s : State) : Result := .next (cmathRow 0x91#8 s)

/-- `CMATH.92` (R281): DOUBLE_MAIN ADD_SUB CMATH_EN. -/
def execCmath92 (s : State) : Result := .next (cmathRow 0x92#8 s)

/-- `CMATH.93` (R281): HALF_MAIN DOUBLE_MAIN ADD_SUB CMATH_EN. -/
def execCmath93 (s : State) : Result := .next (cmathRow 0x93#8 s)

/-- `CMATH.94` (R281): HALF_SUB ADD_SUB CMATH_EN. -/
def execCmath94 (s : State) : Result := .next (cmathRow 0x94#8 s)

/-- `CMATH.95` (R281): HALF_MAIN HALF_SUB ADD_SUB CMATH_EN. -/
def execCmath95 (s : State) : Result := .next (cmathRow 0x95#8 s)

/-- `CMATH.96` (R281): DOUBLE_MAIN HALF_SUB ADD_SUB CMATH_EN. -/
def execCmath96 (s : State) : Result := .next (cmathRow 0x96#8 s)

/-- `CMATH.97` (R281): HALF_MAIN DOUBLE_MAIN HALF_SUB ADD_SUB CMATH_EN. -/
def execCmath97 (s : State) : Result := .next (cmathRow 0x97#8 s)

/-- `CMATH.98` (R281): DOUBLE_SUB ADD_SUB CMATH_EN. -/
def execCmath98 (s : State) : Result := .next (cmathRow 0x98#8 s)

/-- `CMATH.99` (R281): HALF_MAIN DOUBLE_SUB ADD_SUB CMATH_EN. -/
def execCmath99 (s : State) : Result := .next (cmathRow 0x99#8 s)

/-- `CMATH.9A` (R281): DOUBLE_MAIN DOUBLE_SUB ADD_SUB CMATH_EN. -/
def execCmath9A (s : State) : Result := .next (cmathRow 0x9A#8 s)

/-- `CMATH.9B` (R281): HALF_MAIN DOUBLE_MAIN DOUBLE_SUB ADD_SUB CMATH_EN. -/
def execCmath9B (s : State) : Result := .next (cmathRow 0x9B#8 s)

/-- `CMATH.9C` (R281): HALF_SUB DOUBLE_SUB ADD_SUB CMATH_EN. -/
def execCmath9C (s : State) : Result := .next (cmathRow 0x9C#8 s)

/-- `CMATH.9D` (R281): HALF_MAIN HALF_SUB DOUBLE_SUB ADD_SUB CMATH_EN. -/
def execCmath9D (s : State) : Result := .next (cmathRow 0x9D#8 s)

/-- `CMATH.9E` (R281): DOUBLE_MAIN HALF_SUB DOUBLE_SUB ADD_SUB CMATH_EN. -/
def execCmath9E (s : State) : Result := .next (cmathRow 0x9E#8 s)

/-- `CMATH.9F` (R281): HALF_MAIN DOUBLE_MAIN HALF_SUB DOUBLE_SUB ADD_SUB CMATH_EN. -/
def execCmath9F (s : State) : Result := .next (cmathRow 0x9F#8 s)

/-- `CMATH.A0` (R281): SUB_SUB CMATH_EN. -/
def execCmathA0 (s : State) : Result := .next (cmathRow 0xA0#8 s)

/-- `CMATH.A1` (R281): HALF_MAIN SUB_SUB CMATH_EN. -/
def execCmathA1 (s : State) : Result := .next (cmathRow 0xA1#8 s)

/-- `CMATH.A2` (R281): DOUBLE_MAIN SUB_SUB CMATH_EN. -/
def execCmathA2 (s : State) : Result := .next (cmathRow 0xA2#8 s)

/-- `CMATH.A3` (R281): HALF_MAIN DOUBLE_MAIN SUB_SUB CMATH_EN. -/
def execCmathA3 (s : State) : Result := .next (cmathRow 0xA3#8 s)

/-- `CMATH.A4` (R281): HALF_SUB SUB_SUB CMATH_EN. -/
def execCmathA4 (s : State) : Result := .next (cmathRow 0xA4#8 s)

/-- `CMATH.A5` (R281): HALF_MAIN HALF_SUB SUB_SUB CMATH_EN. -/
def execCmathA5 (s : State) : Result := .next (cmathRow 0xA5#8 s)

/-- `CMATH.A6` (R281): DOUBLE_MAIN HALF_SUB SUB_SUB CMATH_EN. -/
def execCmathA6 (s : State) : Result := .next (cmathRow 0xA6#8 s)

/-- `CMATH.A7` (R281): HALF_MAIN DOUBLE_MAIN HALF_SUB SUB_SUB CMATH_EN. -/
def execCmathA7 (s : State) : Result := .next (cmathRow 0xA7#8 s)

/-- `CMATH.A8` (R281): DOUBLE_SUB SUB_SUB CMATH_EN. -/
def execCmathA8 (s : State) : Result := .next (cmathRow 0xA8#8 s)

/-- `CMATH.A9` (R281): HALF_MAIN DOUBLE_SUB SUB_SUB CMATH_EN. -/
def execCmathA9 (s : State) : Result := .next (cmathRow 0xA9#8 s)

/-- `CMATH.AA` (R281): DOUBLE_MAIN DOUBLE_SUB SUB_SUB CMATH_EN. -/
def execCmathAA (s : State) : Result := .next (cmathRow 0xAA#8 s)

/-- `CMATH.AB` (R281): HALF_MAIN DOUBLE_MAIN DOUBLE_SUB SUB_SUB CMATH_EN. -/
def execCmathAB (s : State) : Result := .next (cmathRow 0xAB#8 s)

/-- `CMATH.AC` (R281): HALF_SUB DOUBLE_SUB SUB_SUB CMATH_EN. -/
def execCmathAC (s : State) : Result := .next (cmathRow 0xAC#8 s)

/-- `CMATH.AD` (R281): HALF_MAIN HALF_SUB DOUBLE_SUB SUB_SUB CMATH_EN. -/
def execCmathAD (s : State) : Result := .next (cmathRow 0xAD#8 s)

/-- `CMATH.AE` (R281): DOUBLE_MAIN HALF_SUB DOUBLE_SUB SUB_SUB CMATH_EN. -/
def execCmathAE (s : State) : Result := .next (cmathRow 0xAE#8 s)

/-- `CMATH.AF` (R281): HALF_MAIN DOUBLE_MAIN HALF_SUB DOUBLE_SUB SUB_SUB CMATH_EN. -/
def execCmathAF (s : State) : Result := .next (cmathRow 0xAF#8 s)

/-- `CMATH.B0` (R281): ADD_SUB SUB_SUB CMATH_EN. -/
def execCmathB0 (s : State) : Result := .next (cmathRow 0xB0#8 s)

/-- `CMATH.B1` (R281): HALF_MAIN ADD_SUB SUB_SUB CMATH_EN. -/
def execCmathB1 (s : State) : Result := .next (cmathRow 0xB1#8 s)

/-- `CMATH.B2` (R281): DOUBLE_MAIN ADD_SUB SUB_SUB CMATH_EN. -/
def execCmathB2 (s : State) : Result := .next (cmathRow 0xB2#8 s)

/-- `CMATH.B3` (R281): HALF_MAIN DOUBLE_MAIN ADD_SUB SUB_SUB CMATH_EN. -/
def execCmathB3 (s : State) : Result := .next (cmathRow 0xB3#8 s)

/-- `CMATH.B4` (R281): HALF_SUB ADD_SUB SUB_SUB CMATH_EN. -/
def execCmathB4 (s : State) : Result := .next (cmathRow 0xB4#8 s)

/-- `CMATH.B5` (R281): HALF_MAIN HALF_SUB ADD_SUB SUB_SUB CMATH_EN. -/
def execCmathB5 (s : State) : Result := .next (cmathRow 0xB5#8 s)

/-- `CMATH.B6` (R281): DOUBLE_MAIN HALF_SUB ADD_SUB SUB_SUB CMATH_EN. -/
def execCmathB6 (s : State) : Result := .next (cmathRow 0xB6#8 s)

/-- `CMATH.B7` (R281): HALF_MAIN DOUBLE_MAIN HALF_SUB ADD_SUB SUB_SUB CMATH_EN. -/
def execCmathB7 (s : State) : Result := .next (cmathRow 0xB7#8 s)

/-- `CMATH.B8` (R281): DOUBLE_SUB ADD_SUB SUB_SUB CMATH_EN. -/
def execCmathB8 (s : State) : Result := .next (cmathRow 0xB8#8 s)

/-- `CMATH.B9` (R281): HALF_MAIN DOUBLE_SUB ADD_SUB SUB_SUB CMATH_EN. -/
def execCmathB9 (s : State) : Result := .next (cmathRow 0xB9#8 s)

/-- `CMATH.BA` (R281): DOUBLE_MAIN DOUBLE_SUB ADD_SUB SUB_SUB CMATH_EN. -/
def execCmathBA (s : State) : Result := .next (cmathRow 0xBA#8 s)

/-- `CMATH.BB` (R281): HALF_MAIN DOUBLE_MAIN DOUBLE_SUB ADD_SUB SUB_SUB CMATH_EN. -/
def execCmathBB (s : State) : Result := .next (cmathRow 0xBB#8 s)

/-- `CMATH.BC` (R281): HALF_SUB DOUBLE_SUB ADD_SUB SUB_SUB CMATH_EN. -/
def execCmathBC (s : State) : Result := .next (cmathRow 0xBC#8 s)

/-- `CMATH.BD` (R281): HALF_MAIN HALF_SUB DOUBLE_SUB ADD_SUB SUB_SUB CMATH_EN. -/
def execCmathBD (s : State) : Result := .next (cmathRow 0xBD#8 s)

/-- `CMATH.BE` (R281): DOUBLE_MAIN HALF_SUB DOUBLE_SUB ADD_SUB SUB_SUB CMATH_EN. -/
def execCmathBE (s : State) : Result := .next (cmathRow 0xBE#8 s)

/-- `CMATH.BF` (R281): HALF_MAIN DOUBLE_MAIN HALF_SUB DOUBLE_SUB ADD_SUB SUB_SUB CMATH_EN. -/
def execCmathBF (s : State) : Result := .next (cmathRow 0xBF#8 s)

/-- `CMATH.C0` (R281): FADE_EN CMATH_EN. -/
def execCmathC0 (s : State) : Result := .next (cmathRow 0xC0#8 s)

/-- `CMATH.C1` (R281): HALF_MAIN FADE_EN CMATH_EN. -/
def execCmathC1 (s : State) : Result := .next (cmathRow 0xC1#8 s)

/-- `CMATH.C2` (R281): DOUBLE_MAIN FADE_EN CMATH_EN. -/
def execCmathC2 (s : State) : Result := .next (cmathRow 0xC2#8 s)

/-- `CMATH.C3` (R281): HALF_MAIN DOUBLE_MAIN FADE_EN CMATH_EN. -/
def execCmathC3 (s : State) : Result := .next (cmathRow 0xC3#8 s)

/-- `CMATH.C4` (R281): HALF_SUB FADE_EN CMATH_EN. -/
def execCmathC4 (s : State) : Result := .next (cmathRow 0xC4#8 s)

/-- `CMATH.C5` (R281): HALF_MAIN HALF_SUB FADE_EN CMATH_EN. -/
def execCmathC5 (s : State) : Result := .next (cmathRow 0xC5#8 s)

/-- `CMATH.C6` (R281): DOUBLE_MAIN HALF_SUB FADE_EN CMATH_EN. -/
def execCmathC6 (s : State) : Result := .next (cmathRow 0xC6#8 s)

/-- `CMATH.C7` (R281): HALF_MAIN DOUBLE_MAIN HALF_SUB FADE_EN CMATH_EN. -/
def execCmathC7 (s : State) : Result := .next (cmathRow 0xC7#8 s)

/-- `CMATH.C8` (R281): DOUBLE_SUB FADE_EN CMATH_EN. -/
def execCmathC8 (s : State) : Result := .next (cmathRow 0xC8#8 s)

/-- `CMATH.C9` (R281): HALF_MAIN DOUBLE_SUB FADE_EN CMATH_EN. -/
def execCmathC9 (s : State) : Result := .next (cmathRow 0xC9#8 s)

/-- `CMATH.CA` (R281): DOUBLE_MAIN DOUBLE_SUB FADE_EN CMATH_EN. -/
def execCmathCA (s : State) : Result := .next (cmathRow 0xCA#8 s)

/-- `CMATH.CB` (R281): HALF_MAIN DOUBLE_MAIN DOUBLE_SUB FADE_EN CMATH_EN. -/
def execCmathCB (s : State) : Result := .next (cmathRow 0xCB#8 s)

/-- `CMATH.CC` (R281): HALF_SUB DOUBLE_SUB FADE_EN CMATH_EN. -/
def execCmathCC (s : State) : Result := .next (cmathRow 0xCC#8 s)

/-- `CMATH.CD` (R281): HALF_MAIN HALF_SUB DOUBLE_SUB FADE_EN CMATH_EN. -/
def execCmathCD (s : State) : Result := .next (cmathRow 0xCD#8 s)

/-- `CMATH.CE` (R281): DOUBLE_MAIN HALF_SUB DOUBLE_SUB FADE_EN CMATH_EN. -/
def execCmathCE (s : State) : Result := .next (cmathRow 0xCE#8 s)

/-- `CMATH.CF` (R281): HALF_MAIN DOUBLE_MAIN HALF_SUB DOUBLE_SUB FADE_EN CMATH_EN. -/
def execCmathCF (s : State) : Result := .next (cmathRow 0xCF#8 s)

/-- `CMATH.D0` (R281): ADD_SUB FADE_EN CMATH_EN. -/
def execCmathD0 (s : State) : Result := .next (cmathRow 0xD0#8 s)

/-- `CMATH.D1` (R281): HALF_MAIN ADD_SUB FADE_EN CMATH_EN. -/
def execCmathD1 (s : State) : Result := .next (cmathRow 0xD1#8 s)

/-- `CMATH.D2` (R281): DOUBLE_MAIN ADD_SUB FADE_EN CMATH_EN. -/
def execCmathD2 (s : State) : Result := .next (cmathRow 0xD2#8 s)

/-- `CMATH.D3` (R281): HALF_MAIN DOUBLE_MAIN ADD_SUB FADE_EN CMATH_EN. -/
def execCmathD3 (s : State) : Result := .next (cmathRow 0xD3#8 s)

/-- `CMATH.D4` (R281): HALF_SUB ADD_SUB FADE_EN CMATH_EN. -/
def execCmathD4 (s : State) : Result := .next (cmathRow 0xD4#8 s)

/-- `CMATH.D5` (R281): HALF_MAIN HALF_SUB ADD_SUB FADE_EN CMATH_EN. -/
def execCmathD5 (s : State) : Result := .next (cmathRow 0xD5#8 s)

/-- `CMATH.D6` (R281): DOUBLE_MAIN HALF_SUB ADD_SUB FADE_EN CMATH_EN. -/
def execCmathD6 (s : State) : Result := .next (cmathRow 0xD6#8 s)

/-- `CMATH.D7` (R281): HALF_MAIN DOUBLE_MAIN HALF_SUB ADD_SUB FADE_EN CMATH_EN. -/
def execCmathD7 (s : State) : Result := .next (cmathRow 0xD7#8 s)

/-- `CMATH.D8` (R281): DOUBLE_SUB ADD_SUB FADE_EN CMATH_EN. -/
def execCmathD8 (s : State) : Result := .next (cmathRow 0xD8#8 s)

/-- `CMATH.D9` (R281): HALF_MAIN DOUBLE_SUB ADD_SUB FADE_EN CMATH_EN. -/
def execCmathD9 (s : State) : Result := .next (cmathRow 0xD9#8 s)

/-- `CMATH.DA` (R281): DOUBLE_MAIN DOUBLE_SUB ADD_SUB FADE_EN CMATH_EN. -/
def execCmathDA (s : State) : Result := .next (cmathRow 0xDA#8 s)

/-- `CMATH.DB` (R281): HALF_MAIN DOUBLE_MAIN DOUBLE_SUB ADD_SUB FADE_EN CMATH_EN. -/
def execCmathDB (s : State) : Result := .next (cmathRow 0xDB#8 s)

/-- `CMATH.DC` (R281): HALF_SUB DOUBLE_SUB ADD_SUB FADE_EN CMATH_EN. -/
def execCmathDC (s : State) : Result := .next (cmathRow 0xDC#8 s)

/-- `CMATH.DD` (R281): HALF_MAIN HALF_SUB DOUBLE_SUB ADD_SUB FADE_EN CMATH_EN. -/
def execCmathDD (s : State) : Result := .next (cmathRow 0xDD#8 s)

/-- `CMATH.DE` (R281): DOUBLE_MAIN HALF_SUB DOUBLE_SUB ADD_SUB FADE_EN CMATH_EN. -/
def execCmathDE (s : State) : Result := .next (cmathRow 0xDE#8 s)

/-- `CMATH.DF` (R281): HALF_MAIN DOUBLE_MAIN HALF_SUB DOUBLE_SUB ADD_SUB FADE_EN CMATH_EN. -/
def execCmathDF (s : State) : Result := .next (cmathRow 0xDF#8 s)

/-- `CMATH.E0` (R281): SUB_SUB FADE_EN CMATH_EN. -/
def execCmathE0 (s : State) : Result := .next (cmathRow 0xE0#8 s)

/-- `CMATH.E1` (R281): HALF_MAIN SUB_SUB FADE_EN CMATH_EN. -/
def execCmathE1 (s : State) : Result := .next (cmathRow 0xE1#8 s)

/-- `CMATH.E2` (R281): DOUBLE_MAIN SUB_SUB FADE_EN CMATH_EN. -/
def execCmathE2 (s : State) : Result := .next (cmathRow 0xE2#8 s)

/-- `CMATH.E3` (R281): HALF_MAIN DOUBLE_MAIN SUB_SUB FADE_EN CMATH_EN. -/
def execCmathE3 (s : State) : Result := .next (cmathRow 0xE3#8 s)

/-- `CMATH.E4` (R281): HALF_SUB SUB_SUB FADE_EN CMATH_EN. -/
def execCmathE4 (s : State) : Result := .next (cmathRow 0xE4#8 s)

/-- `CMATH.E5` (R281): HALF_MAIN HALF_SUB SUB_SUB FADE_EN CMATH_EN. -/
def execCmathE5 (s : State) : Result := .next (cmathRow 0xE5#8 s)

/-- `CMATH.E6` (R281): DOUBLE_MAIN HALF_SUB SUB_SUB FADE_EN CMATH_EN. -/
def execCmathE6 (s : State) : Result := .next (cmathRow 0xE6#8 s)

/-- `CMATH.E7` (R281): HALF_MAIN DOUBLE_MAIN HALF_SUB SUB_SUB FADE_EN CMATH_EN. -/
def execCmathE7 (s : State) : Result := .next (cmathRow 0xE7#8 s)

/-- `CMATH.E8` (R281): DOUBLE_SUB SUB_SUB FADE_EN CMATH_EN. -/
def execCmathE8 (s : State) : Result := .next (cmathRow 0xE8#8 s)

/-- `CMATH.E9` (R281): HALF_MAIN DOUBLE_SUB SUB_SUB FADE_EN CMATH_EN. -/
def execCmathE9 (s : State) : Result := .next (cmathRow 0xE9#8 s)

/-- `CMATH.EA` (R281): DOUBLE_MAIN DOUBLE_SUB SUB_SUB FADE_EN CMATH_EN. -/
def execCmathEA (s : State) : Result := .next (cmathRow 0xEA#8 s)

/-- `CMATH.EB` (R281): HALF_MAIN DOUBLE_MAIN DOUBLE_SUB SUB_SUB FADE_EN CMATH_EN. -/
def execCmathEB (s : State) : Result := .next (cmathRow 0xEB#8 s)

/-- `CMATH.EC` (R281): HALF_SUB DOUBLE_SUB SUB_SUB FADE_EN CMATH_EN. -/
def execCmathEC (s : State) : Result := .next (cmathRow 0xEC#8 s)

/-- `CMATH.ED` (R281): HALF_MAIN HALF_SUB DOUBLE_SUB SUB_SUB FADE_EN CMATH_EN. -/
def execCmathED (s : State) : Result := .next (cmathRow 0xED#8 s)

/-- `CMATH.EE` (R281): DOUBLE_MAIN HALF_SUB DOUBLE_SUB SUB_SUB FADE_EN CMATH_EN. -/
def execCmathEE (s : State) : Result := .next (cmathRow 0xEE#8 s)

/-- `CMATH.EF` (R281): HALF_MAIN DOUBLE_MAIN HALF_SUB DOUBLE_SUB SUB_SUB FADE_EN CMATH_EN. -/
def execCmathEF (s : State) : Result := .next (cmathRow 0xEF#8 s)

/-- `CMATH.F0` (R281): ADD_SUB SUB_SUB FADE_EN CMATH_EN. -/
def execCmathF0 (s : State) : Result := .next (cmathRow 0xF0#8 s)

/-- `CMATH.F1` (R281): HALF_MAIN ADD_SUB SUB_SUB FADE_EN CMATH_EN. -/
def execCmathF1 (s : State) : Result := .next (cmathRow 0xF1#8 s)

/-- `CMATH.F2` (R281): DOUBLE_MAIN ADD_SUB SUB_SUB FADE_EN CMATH_EN. -/
def execCmathF2 (s : State) : Result := .next (cmathRow 0xF2#8 s)

/-- `CMATH.F3` (R281): HALF_MAIN DOUBLE_MAIN ADD_SUB SUB_SUB FADE_EN CMATH_EN. -/
def execCmathF3 (s : State) : Result := .next (cmathRow 0xF3#8 s)

/-- `CMATH.F4` (R281): HALF_SUB ADD_SUB SUB_SUB FADE_EN CMATH_EN. -/
def execCmathF4 (s : State) : Result := .next (cmathRow 0xF4#8 s)

/-- `CMATH.F5` (R281): HALF_MAIN HALF_SUB ADD_SUB SUB_SUB FADE_EN CMATH_EN. -/
def execCmathF5 (s : State) : Result := .next (cmathRow 0xF5#8 s)

/-- `CMATH.F6` (R281): DOUBLE_MAIN HALF_SUB ADD_SUB SUB_SUB FADE_EN CMATH_EN. -/
def execCmathF6 (s : State) : Result := .next (cmathRow 0xF6#8 s)

/-- `CMATH.F7` (R281): HALF_MAIN DOUBLE_MAIN HALF_SUB ADD_SUB SUB_SUB FADE_EN CMATH_EN. -/
def execCmathF7 (s : State) : Result := .next (cmathRow 0xF7#8 s)

/-- `CMATH.F8` (R281): DOUBLE_SUB ADD_SUB SUB_SUB FADE_EN CMATH_EN. -/
def execCmathF8 (s : State) : Result := .next (cmathRow 0xF8#8 s)

/-- `CMATH.F9` (R281): HALF_MAIN DOUBLE_SUB ADD_SUB SUB_SUB FADE_EN CMATH_EN. -/
def execCmathF9 (s : State) : Result := .next (cmathRow 0xF9#8 s)

/-- `CMATH.FA` (R281): DOUBLE_MAIN DOUBLE_SUB ADD_SUB SUB_SUB FADE_EN CMATH_EN. -/
def execCmathFA (s : State) : Result := .next (cmathRow 0xFA#8 s)

/-- `CMATH.FB` (R281): HALF_MAIN DOUBLE_MAIN DOUBLE_SUB ADD_SUB SUB_SUB FADE_EN CMATH_EN. -/
def execCmathFB (s : State) : Result := .next (cmathRow 0xFB#8 s)

/-- `CMATH.FC` (R281): HALF_SUB DOUBLE_SUB ADD_SUB SUB_SUB FADE_EN CMATH_EN. -/
def execCmathFC (s : State) : Result := .next (cmathRow 0xFC#8 s)

/-- `CMATH.FD` (R281): HALF_MAIN HALF_SUB DOUBLE_SUB ADD_SUB SUB_SUB FADE_EN CMATH_EN. -/
def execCmathFD (s : State) : Result := .next (cmathRow 0xFD#8 s)

/-- `CMATH.FE` (R281): DOUBLE_MAIN HALF_SUB DOUBLE_SUB ADD_SUB SUB_SUB FADE_EN CMATH_EN. -/
def execCmathFE (s : State) : Result := .next (cmathRow 0xFE#8 s)

/-- `CMATH.FF` (R281): HALF_MAIN DOUBLE_MAIN HALF_SUB DOUBLE_SUB ADD_SUB SUB_SUB FADE_EN CMATH_EN. -/
def execCmathFF (s : State) : Result := .next (cmathRow 0xFF#8 s)

end Sys2Proof.Machine
end

