-- ==== Sys2Proof/Machine/Window.lean ====
section
/-!
DEFINITION. The window mask generator and the window nibble functions (`42_window_mask.md`).
-/

namespace Sys2Proof.Machine

/-- A column comparator: `c` lies between the signed boundaries, both inclusive (R201). -/
def inSpan (left right : Half) (c : Nat) : Bool :=
  decide (left.toInt ≤ (c : Int)) && decide ((c : Int) ≤ right.toInt)

/-- `In1(c)` (R201). -/
def State.in1 (s : State) (c : Nat) : Bool := inSpan s.regs.win1Left s.regs.win1Right c

/-- `In2(c)` (R201). -/
def State.in2 (s : State) (c : Nat) : Bool := inSpan s.regs.win2Left s.regs.win2Right c

/-- `Region(in1, in2)`: bit 0 A, bit 1 B, bit 2 AB, bit 3 X (R202). -/
def region (in1 in2 : Bool) : BitVec 4 :=
  BitVec.ofBool (!in1 && !in2) ++ BitVec.ofBool (in1 && in2) ++ BitVec.ofBool in2 ++ BitVec.ofBool in1

/-- A mask lane: the region nibble for the sub screen and for the main screen (R203). -/
def laneOf (reg : BitVec 4) : Byte := reg ++ reg

/-- `WindowMask()` (R200). -/
def windowMask (s : State) : State :=
  s.setWmask (row240 fun c => laneOf (region (s.in1 c) (s.in2 c)))

/-- `WinSel(n, reg)` (R204). -/
def winSel (n reg : BitVec 4) : Bool := decide (n &&& reg ≠ 0)

/-- The nibble of a mask lane that stands for the main screen (R203). -/
def laneMain (lane : Byte) : BitVec 4 := lane.extractLsb' 0 4

/-- The nibble of a mask lane that stands for the sub screen (R203). -/
def laneSub (lane : Byte) : BitVec 4 := lane.extractLsb' 4 4

/-- `VisMain(wb, c)`, `lane` being `WMASK[c]`: the main nibbles of `wb & WMASK[c]` (R204). -/
def visMain (wb lane : Byte) : Bool := decide (laneMain (wb &&& lane) ≠ 0)

/-- `VisSub(wb, c)` (R204). -/
def visSub (wb lane : Byte) : Bool := decide (laneSub (wb &&& lane) ≠ 0)

/-- The lookup of one window nibble over the row: the select line of each column (R205, R206), from the mask's main nibble,
which `WindowMask` makes equal to the sub nibble (R203). Logs 13 and 24. -/
def winLookup (n : BitVec 4) (s : State) : State :=
  s.setSelect (row240 fun c => winSel n (laneMain (s.laneAt c)))

/-! ### The 16 nibble functions -/

/-- `WINNIB.0` (R206): regions none. -/
def execWinnib0 (s : State) : Result := .next (winLookup 0x0#4 s)

/-- `WINNIB.1` (R206): regions A. -/
def execWinnib1 (s : State) : Result := .next (winLookup 0x1#4 s)

/-- `WINNIB.2` (R206): regions B. -/
def execWinnib2 (s : State) : Result := .next (winLookup 0x2#4 s)

/-- `WINNIB.3` (R206): regions A B. -/
def execWinnib3 (s : State) : Result := .next (winLookup 0x3#4 s)

/-- `WINNIB.4` (R206): regions AB. -/
def execWinnib4 (s : State) : Result := .next (winLookup 0x4#4 s)

/-- `WINNIB.5` (R206): regions A AB. -/
def execWinnib5 (s : State) : Result := .next (winLookup 0x5#4 s)

/-- `WINNIB.6` (R206): regions B AB. -/
def execWinnib6 (s : State) : Result := .next (winLookup 0x6#4 s)

/-- `WINNIB.7` (R206): regions A B AB. -/
def execWinnib7 (s : State) : Result := .next (winLookup 0x7#4 s)

/-- `WINNIB.8` (R206): regions X. -/
def execWinnib8 (s : State) : Result := .next (winLookup 0x8#4 s)

/-- `WINNIB.9` (R206): regions A X. -/
def execWinnib9 (s : State) : Result := .next (winLookup 0x9#4 s)

/-- `WINNIB.A` (R206): regions B X. -/
def execWinnibA (s : State) : Result := .next (winLookup 0xA#4 s)

/-- `WINNIB.B` (R206): regions A B X. -/
def execWinnibB (s : State) : Result := .next (winLookup 0xB#4 s)

/-- `WINNIB.C` (R206): regions AB X. -/
def execWinnibC (s : State) : Result := .next (winLookup 0xC#4 s)

/-- `WINNIB.D` (R206): regions A AB X. -/
def execWinnibD (s : State) : Result := .next (winLookup 0xD#4 s)

/-- `WINNIB.E` (R206): regions B AB X. -/
def execWinnibE (s : State) : Result := .next (winLookup 0xE#4 s)

/-- `WINNIB.F` (R206): regions A B AB X. -/
def execWinnibF (s : State) : Result := .next (winLookup 0xF#4 s)

end Sys2Proof.Machine
end

