-- ==== Sys2Proof/Machine/Layer.lean ====
section
/-!
DEFINITION. The layer write, the fallback stage and the background rasteriser (`43_composition.md` R222, R228 to R230).
-/

namespace Sys2Proof.Machine

/-- `LayerWrite(c, p, m, wb)` on one line buffer: what column `c` holds after it, `old` before it, `vis` the layer's
visibility at the column on that screen. 0x0000 is transparent; the marker is ORed in after that test (R230). -/
def layerPixel (vis m : Bool) (p old : Pixel) : Pixel :=
  if p = 0 then old
  else if vis then (if m then p ||| 0x8000#16 else p)
  else old

/-- Stage FALLBACK (R222): every column of both line buffers, windowed when `winen`. -/
def fallback (winen : Bool) (s : State) : State :=
  s.setLines
    (row240 fun c => if winen && !visMain s.regs.bgcolWindows (s.laneAt c) then 0 else s.regs.mainColour)
    (row240 fun c => if winen && !visSub s.regs.bgcolWindows (s.laneAt c) then 0 else s.regs.subColour)

/-- The field coordinate that screen coordinate `p` shows under signed scroll `scroll`, modulo 512 (R228). -/
def fieldCoord (p : Nat) (scroll : Half) : Nat := (((p : Int) + scroll.toInt) % (Config.field : Int)).toNat

/-- `BgPixel(n, fx, fy)` through tile map `map` (R229). -/
def bgPixel (s : State) (map : Mem) (fx fy : Nat) : Pixel :=
  let t := Mem.half map (64 * (fy / 8) + fx / 8)
  let ax := 8 * tileCol t + fx % 8
  let ay := 8 * tileRow t + fy % 8
  Mem.half s.bgAtlas (256 * ay + ax)

/-- The pixel background `b` has at screen column `c` of row `row` (R228). -/
def bgColumn (s : State) (b : Background) (row c : Nat) : Pixel :=
  bgPixel s b.map (fieldCoord c b.x) (fieldCoord row b.y)

/-- `BgRow(n, row)` (R228): each column of both line buffers takes one layer write. -/
def bgRow (b : Background) (s : State) : State :=
  s.setLines
    (row240 fun c =>
      layerPixel (visMain b.windows (s.laneAt c)) (bgCmath b.flags) (bgColumn s b s.row c) (s.mainAt c))
    (row240 fun c =>
      layerPixel (visSub b.windows (s.laneAt c)) (bgCmath b.flags) (bgColumn s b s.row c) (s.subAt c))

end Sys2Proof.Machine
end

