-- ==== Sys2Proof/Machine/Sprite.lean ====
section
/-!
DEFINITION. The sprite culler and the sprite-blit microcodes (`41_sprite_cache.md`, `44_sprite_blit.md`).
-/

namespace Sys2Proof.Machine

/-! ### Culling -/

/-- A legal sprite size, 8 or 16 (`30_encoding.md` R106). -/
def legalSize (n : Byte) : Bool := n == 8#8 || n == 16#8

/-- A size in screen pixels, doubled by `SPR_DOUBLE` (`41_sprite_cache.md` R181, `44_sprite_blit.md` R254). -/
def screenSize (n : Byte) (dbl : Bool) : Nat := if dbl then 2 * n.toNat else n.toNat

/-- `Admit(S, row)` (R181), on mathematical integers. -/
def admitted (S : Sprite) (row : Nat) : Bool :=
  let w : Int := screenSize S.width (sprDouble S.flags)
  let h : Int := screenSize S.height (sprDouble S.flags)
  legalSize S.width && legalSize S.height
    && decide (S.y.toInt ≤ (row : Int)) && decide (S.y.toInt > (row : Int) - h)
    && decide (S.x.toInt < 240) && decide (S.x.toInt > -w)

/-- The tests of R180 but for the room in the list: enabled, of class `cls`, with a window, and admitted. -/
def cullable (s : State) (row : Nat) (cls : Bool) (i : Byte) : Bool :=
  let S := s.sprite i
  sprEnabled S.flags && (sprPriority S.flags == cls) && decide (S.windows ≠ 0) && admitted S row

/-- One turn of the scan of R180 on the two lists of indices found so far. -/
def cullStep (s : State) (row : Nat) (acc : List Byte × List Byte) (i : Byte) : List Byte × List Byte :=
  if acc.1.length = Config.cacheSlots ∧ acc.2.length = Config.cacheSlots then acc
  else if acc.1.length < Config.cacheSlots && cullable s row false i then (acc.1 ++ [i], acc.2)
  else if acc.2.length < Config.cacheSlots && cullable s row true i then (acc.1, acc.2 ++ [i])
  else acc

/-- The scan of R180 over the table in ascending index order. -/
def cullLists (s : State) (row : Nat) : List Byte × List Byte :=
  ((List.range Config.sprites).map (BitVec.ofNat 8)).foldl (cullStep s row) ([], [])

/-- A list of indices padded with the sentinel to 16 slots (R183). -/
def padSlots (l : List Byte) : List Slot :=
  l.map some ++ List.replicate (Config.cacheSlots - l.length) none

/-- `Cull(row)` (R180) for the row being processed. -/
def cull (s : State) : State :=
  let l := cullLists s s.row
  s.setCache (padSlots l.1) (padSlots l.2)

/-! ### The blit -/

/-- The source coordinate of a screen offset `l` in a sprite of atlas size `n`: halved when doubled, then mirrored when
flipped (R252, R253, R254). -/
def srcCoord (l n : Int) (flip dbl : Bool) : Int :=
  let k := if dbl then l / 2 else l
  if flip then n - 1 - k else k

/-- `SprPixel(gx0, gy, sx, sy)` (R256): both atlas coordinates wrap modulo 256. -/
def sprPixel (s : State) (gx0 gy : Byte) (sx sy : Int) : Pixel :=
  let ax := (((gx0.toNat : Int) + sx) % 256).toNat
  let ay := (((gy.toNat : Int) + sy) % 256).toNat
  Mem.half s.sprAtlas (256 * ay + ax)

/-- The atlas pixel that sprite `S` under key `q` has for screen column `c` of row `row`; `none` outside the sprite's columns
(R250, R260). -/
def sprColumn (s : State) (S : Sprite) (q : BitVec 4) (row c : Nat) : Option Pixel :=
  let lx : Int := (c : Int) - S.x.toInt
  let ly : Int := (row : Int) - S.y.toInt
  if 0 ≤ lx ∧ lx < (screenSize S.width (blitDouble q) : Int) then
    some (sprPixel s (S.gx &&& 0xF8#8) S.gy
      (srcCoord lx (S.width.toNat : Int) (blitFlipX q) (blitDouble q))
      (srcCoord ly (S.height.toNat : Int) (blitFlipY q) (blitDouble q)))
  else none

/-- A layer write of a sprite's pixel where it has one (R230, R255, R257, R258). -/
def blitPixel (vis m : Bool) (p : Option Pixel) (old : Pixel) : Pixel :=
  match p with
  | none => old
  | some p => layerPixel vis m p old

/-- `SprBlit(i, row)` with the four key bits `q` (R250): the microcode of key `q` for sprite `i`, on the row being
processed. -/
def sprBlitKey (q : BitVec 4) (i : Byte) (s : State) : State :=
  let S := s.sprite i
  s.setLines
    (row240 fun c =>
      blitPixel (visMain S.windows (s.laneAt c)) (blitCmath q) (sprColumn s S q s.row c) (s.mainAt c))
    (row240 fun c =>
      blitPixel (visSub S.windows (s.laneAt c)) (blitCmath q) (sprColumn s S q s.row c) (s.subAt c))

/-- `SprBlit(i, row)`: the microcode that the sprite's own flags select (R250, `30_encoding.md` R113). -/
def sprBlit (i : Byte) (s : State) : State := sprBlitKey (sprKeyOf (s.sprite i).flags) i s

/-- The sprites of a cache list drawn in list order up to the sentinel (`43_composition.md` R223). -/
def sprLayer : List Slot → State → State
  | [], s => s
  | none :: _, s => s
  | some i :: l, s => sprLayer l (sprBlit i s)

/-! ### The 16 blit microcodes -/

/-- `SPRBLIT.0` (R259): none. -/
def execSprblit0 (i : Byte) (s : State) : Result := .next (sprBlitKey 0#4 i s)

/-- `SPRBLIT.1` (R259): SPR_FLIP_X. -/
def execSprblit1 (i : Byte) (s : State) : Result := .next (sprBlitKey 1#4 i s)

/-- `SPRBLIT.2` (R259): SPR_FLIP_Y. -/
def execSprblit2 (i : Byte) (s : State) : Result := .next (sprBlitKey 2#4 i s)

/-- `SPRBLIT.3` (R259): SPR_FLIP_X SPR_FLIP_Y. -/
def execSprblit3 (i : Byte) (s : State) : Result := .next (sprBlitKey 3#4 i s)

/-- `SPRBLIT.4` (R259): SPR_CMATH. -/
def execSprblit4 (i : Byte) (s : State) : Result := .next (sprBlitKey 4#4 i s)

/-- `SPRBLIT.5` (R259): SPR_FLIP_X SPR_CMATH. -/
def execSprblit5 (i : Byte) (s : State) : Result := .next (sprBlitKey 5#4 i s)

/-- `SPRBLIT.6` (R259): SPR_FLIP_Y SPR_CMATH. -/
def execSprblit6 (i : Byte) (s : State) : Result := .next (sprBlitKey 6#4 i s)

/-- `SPRBLIT.7` (R259): SPR_FLIP_X SPR_FLIP_Y SPR_CMATH. -/
def execSprblit7 (i : Byte) (s : State) : Result := .next (sprBlitKey 7#4 i s)

/-- `SPRBLIT.8` (R259): SPR_DOUBLE. -/
def execSprblit8 (i : Byte) (s : State) : Result := .next (sprBlitKey 8#4 i s)

/-- `SPRBLIT.9` (R259): SPR_FLIP_X SPR_DOUBLE. -/
def execSprblit9 (i : Byte) (s : State) : Result := .next (sprBlitKey 9#4 i s)

/-- `SPRBLIT.10` (R259): SPR_FLIP_Y SPR_DOUBLE. -/
def execSprblit10 (i : Byte) (s : State) : Result := .next (sprBlitKey 10#4 i s)

/-- `SPRBLIT.11` (R259): SPR_FLIP_X SPR_FLIP_Y SPR_DOUBLE. -/
def execSprblit11 (i : Byte) (s : State) : Result := .next (sprBlitKey 11#4 i s)

/-- `SPRBLIT.12` (R259): SPR_CMATH SPR_DOUBLE. -/
def execSprblit12 (i : Byte) (s : State) : Result := .next (sprBlitKey 12#4 i s)

/-- `SPRBLIT.13` (R259): SPR_FLIP_X SPR_CMATH SPR_DOUBLE. -/
def execSprblit13 (i : Byte) (s : State) : Result := .next (sprBlitKey 13#4 i s)

/-- `SPRBLIT.14` (R259): SPR_FLIP_Y SPR_CMATH SPR_DOUBLE. -/
def execSprblit14 (i : Byte) (s : State) : Result := .next (sprBlitKey 14#4 i s)

/-- `SPRBLIT.15` (R259): SPR_FLIP_X SPR_FLIP_Y SPR_CMATH SPR_DOUBLE. -/
def execSprblit15 (i : Byte) (s : State) : Result := .next (sprBlitKey 15#4 i s)

end Sys2Proof.Machine
end

