-- ==== Sys2Proof/Machine/Scan.lean ====
section
/-!
DEFINITION. The composition dispatcher: the scanline microcodes (`43_composition.md`).
-/

namespace Sys2Proof.Machine

/-- Stage SPR0 (R223). -/
def stageSpr0 (k : BitVec 6) (s : State) : State := if keySpr0 k then sprLayer s.cache0 s else s

/-- Stage BG0 (R224). -/
def stageBg0 (k : BitVec 6) (s : State) : State := if keyBg0 k then bgRow s.background0 s else s

/-- Stage BG1 (R225). -/
def stageBg1 (k : BitVec 6) (s : State) : State := if keyBg1 k then bgRow s.background1 s else s

/-- Stage SPR1 (R226). -/
def stageSpr1 (k : BitVec 6) (s : State) : State := if keySpr1 k then sprLayer s.cache1 s else s

/-- Stage CMATH (R227): the output row, blended with the microcode of x[10] or `MAIN` unchanged. -/
def stageCmath (k : BitVec 6) (s : State) : State :=
  if keyCmath k then cmathRow s.regs.cmathFlags s else s.setOut (row240 s.mainAt)

/-- The output store (R233): column `c` goes to `B + 240*i + c` (`20_memory.md` R78). -/
def storeRow (s : State) : State :=
  s.setFb (Mem.storePixels s.fb (s.fbLatch + Config.width * s.rowInSection) s.out)

/-- The line buffers of a row, before the CMATH stage: the layers in their order (R220, R231). -/
def composeLayers (k : BitVec 6) (s : State) : State :=
  stageSpr1 k (stageBg1 k (stageBg0 k (stageSpr0 k (fallback (keyBgColWin k) s))))

/-- `ComposeRow(row, i, B)` with dispatch key `k` (R220), on the row `pc` names and the latched base. -/
def composeRow (k : BitVec 6) (s : State) : State := storeRow (stageCmath k (composeLayers k s))

/-! ### The 64 scanline microcodes -/

/-- `SCAN.00` (R220): none. -/
def execScan00 (s : State) : Result := .next (composeRow 0x00#6 s)

/-- `SCAN.01` (R220): SPR0. -/
def execScan01 (s : State) : Result := .next (composeRow 0x01#6 s)

/-- `SCAN.02` (R220): SPR1. -/
def execScan02 (s : State) : Result := .next (composeRow 0x02#6 s)

/-- `SCAN.03` (R220): SPR0 SPR1. -/
def execScan03 (s : State) : Result := .next (composeRow 0x03#6 s)

/-- `SCAN.04` (R220): BG0. -/
def execScan04 (s : State) : Result := .next (composeRow 0x04#6 s)

/-- `SCAN.05` (R220): SPR0 BG0. -/
def execScan05 (s : State) : Result := .next (composeRow 0x05#6 s)

/-- `SCAN.06` (R220): SPR1 BG0. -/
def execScan06 (s : State) : Result := .next (composeRow 0x06#6 s)

/-- `SCAN.07` (R220): SPR0 SPR1 BG0. -/
def execScan07 (s : State) : Result := .next (composeRow 0x07#6 s)

/-- `SCAN.08` (R220): BG1. -/
def execScan08 (s : State) : Result := .next (composeRow 0x08#6 s)

/-- `SCAN.09` (R220): SPR0 BG1. -/
def execScan09 (s : State) : Result := .next (composeRow 0x09#6 s)

/-- `SCAN.0A` (R220): SPR1 BG1. -/
def execScan0A (s : State) : Result := .next (composeRow 0x0A#6 s)

/-- `SCAN.0B` (R220): SPR0 SPR1 BG1. -/
def execScan0B (s : State) : Result := .next (composeRow 0x0B#6 s)

/-- `SCAN.0C` (R220): BG0 BG1. -/
def execScan0C (s : State) : Result := .next (composeRow 0x0C#6 s)

/-- `SCAN.0D` (R220): SPR0 BG0 BG1. -/
def execScan0D (s : State) : Result := .next (composeRow 0x0D#6 s)

/-- `SCAN.0E` (R220): SPR1 BG0 BG1. -/
def execScan0E (s : State) : Result := .next (composeRow 0x0E#6 s)

/-- `SCAN.0F` (R220): SPR0 SPR1 BG0 BG1. -/
def execScan0F (s : State) : Result := .next (composeRow 0x0F#6 s)

/-- `SCAN.10` (R220): CMATH. -/
def execScan10 (s : State) : Result := .next (composeRow 0x10#6 s)

/-- `SCAN.11` (R220): SPR0 CMATH. -/
def execScan11 (s : State) : Result := .next (composeRow 0x11#6 s)

/-- `SCAN.12` (R220): SPR1 CMATH. -/
def execScan12 (s : State) : Result := .next (composeRow 0x12#6 s)

/-- `SCAN.13` (R220): SPR0 SPR1 CMATH. -/
def execScan13 (s : State) : Result := .next (composeRow 0x13#6 s)

/-- `SCAN.14` (R220): BG0 CMATH. -/
def execScan14 (s : State) : Result := .next (composeRow 0x14#6 s)

/-- `SCAN.15` (R220): SPR0 BG0 CMATH. -/
def execScan15 (s : State) : Result := .next (composeRow 0x15#6 s)

/-- `SCAN.16` (R220): SPR1 BG0 CMATH. -/
def execScan16 (s : State) : Result := .next (composeRow 0x16#6 s)

/-- `SCAN.17` (R220): SPR0 SPR1 BG0 CMATH. -/
def execScan17 (s : State) : Result := .next (composeRow 0x17#6 s)

/-- `SCAN.18` (R220): BG1 CMATH. -/
def execScan18 (s : State) : Result := .next (composeRow 0x18#6 s)

/-- `SCAN.19` (R220): SPR0 BG1 CMATH. -/
def execScan19 (s : State) : Result := .next (composeRow 0x19#6 s)

/-- `SCAN.1A` (R220): SPR1 BG1 CMATH. -/
def execScan1A (s : State) : Result := .next (composeRow 0x1A#6 s)

/-- `SCAN.1B` (R220): SPR0 SPR1 BG1 CMATH. -/
def execScan1B (s : State) : Result := .next (composeRow 0x1B#6 s)

/-- `SCAN.1C` (R220): BG0 BG1 CMATH. -/
def execScan1C (s : State) : Result := .next (composeRow 0x1C#6 s)

/-- `SCAN.1D` (R220): SPR0 BG0 BG1 CMATH. -/
def execScan1D (s : State) : Result := .next (composeRow 0x1D#6 s)

/-- `SCAN.1E` (R220): SPR1 BG0 BG1 CMATH. -/
def execScan1E (s : State) : Result := .next (composeRow 0x1E#6 s)

/-- `SCAN.1F` (R220): SPR0 SPR1 BG0 BG1 CMATH. -/
def execScan1F (s : State) : Result := .next (composeRow 0x1F#6 s)

/-- `SCAN.20` (R220): BGCOLWIN. -/
def execScan20 (s : State) : Result := .next (composeRow 0x20#6 s)

/-- `SCAN.21` (R220): SPR0 BGCOLWIN. -/
def execScan21 (s : State) : Result := .next (composeRow 0x21#6 s)

/-- `SCAN.22` (R220): SPR1 BGCOLWIN. -/
def execScan22 (s : State) : Result := .next (composeRow 0x22#6 s)

/-- `SCAN.23` (R220): SPR0 SPR1 BGCOLWIN. -/
def execScan23 (s : State) : Result := .next (composeRow 0x23#6 s)

/-- `SCAN.24` (R220): BG0 BGCOLWIN. -/
def execScan24 (s : State) : Result := .next (composeRow 0x24#6 s)

/-- `SCAN.25` (R220): SPR0 BG0 BGCOLWIN. -/
def execScan25 (s : State) : Result := .next (composeRow 0x25#6 s)

/-- `SCAN.26` (R220): SPR1 BG0 BGCOLWIN. -/
def execScan26 (s : State) : Result := .next (composeRow 0x26#6 s)

/-- `SCAN.27` (R220): SPR0 SPR1 BG0 BGCOLWIN. -/
def execScan27 (s : State) : Result := .next (composeRow 0x27#6 s)

/-- `SCAN.28` (R220): BG1 BGCOLWIN. -/
def execScan28 (s : State) : Result := .next (composeRow 0x28#6 s)

/-- `SCAN.29` (R220): SPR0 BG1 BGCOLWIN. -/
def execScan29 (s : State) : Result := .next (composeRow 0x29#6 s)

/-- `SCAN.2A` (R220): SPR1 BG1 BGCOLWIN. -/
def execScan2A (s : State) : Result := .next (composeRow 0x2A#6 s)

/-- `SCAN.2B` (R220): SPR0 SPR1 BG1 BGCOLWIN. -/
def execScan2B (s : State) : Result := .next (composeRow 0x2B#6 s)

/-- `SCAN.2C` (R220): BG0 BG1 BGCOLWIN. -/
def execScan2C (s : State) : Result := .next (composeRow 0x2C#6 s)

/-- `SCAN.2D` (R220): SPR0 BG0 BG1 BGCOLWIN. -/
def execScan2D (s : State) : Result := .next (composeRow 0x2D#6 s)

/-- `SCAN.2E` (R220): SPR1 BG0 BG1 BGCOLWIN. -/
def execScan2E (s : State) : Result := .next (composeRow 0x2E#6 s)

/-- `SCAN.2F` (R220): SPR0 SPR1 BG0 BG1 BGCOLWIN. -/
def execScan2F (s : State) : Result := .next (composeRow 0x2F#6 s)

/-- `SCAN.30` (R220): CMATH BGCOLWIN. -/
def execScan30 (s : State) : Result := .next (composeRow 0x30#6 s)

/-- `SCAN.31` (R220): SPR0 CMATH BGCOLWIN. -/
def execScan31 (s : State) : Result := .next (composeRow 0x31#6 s)

/-- `SCAN.32` (R220): SPR1 CMATH BGCOLWIN. -/
def execScan32 (s : State) : Result := .next (composeRow 0x32#6 s)

/-- `SCAN.33` (R220): SPR0 SPR1 CMATH BGCOLWIN. -/
def execScan33 (s : State) : Result := .next (composeRow 0x33#6 s)

/-- `SCAN.34` (R220): BG0 CMATH BGCOLWIN. -/
def execScan34 (s : State) : Result := .next (composeRow 0x34#6 s)

/-- `SCAN.35` (R220): SPR0 BG0 CMATH BGCOLWIN. -/
def execScan35 (s : State) : Result := .next (composeRow 0x35#6 s)

/-- `SCAN.36` (R220): SPR1 BG0 CMATH BGCOLWIN. -/
def execScan36 (s : State) : Result := .next (composeRow 0x36#6 s)

/-- `SCAN.37` (R220): SPR0 SPR1 BG0 CMATH BGCOLWIN. -/
def execScan37 (s : State) : Result := .next (composeRow 0x37#6 s)

/-- `SCAN.38` (R220): BG1 CMATH BGCOLWIN. -/
def execScan38 (s : State) : Result := .next (composeRow 0x38#6 s)

/-- `SCAN.39` (R220): SPR0 BG1 CMATH BGCOLWIN. -/
def execScan39 (s : State) : Result := .next (composeRow 0x39#6 s)

/-- `SCAN.3A` (R220): SPR1 BG1 CMATH BGCOLWIN. -/
def execScan3A (s : State) : Result := .next (composeRow 0x3A#6 s)

/-- `SCAN.3B` (R220): SPR0 SPR1 BG1 CMATH BGCOLWIN. -/
def execScan3B (s : State) : Result := .next (composeRow 0x3B#6 s)

/-- `SCAN.3C` (R220): BG0 BG1 CMATH BGCOLWIN. -/
def execScan3C (s : State) : Result := .next (composeRow 0x3C#6 s)

/-- `SCAN.3D` (R220): SPR0 BG0 BG1 CMATH BGCOLWIN. -/
def execScan3D (s : State) : Result := .next (composeRow 0x3D#6 s)

/-- `SCAN.3E` (R220): SPR1 BG0 BG1 CMATH BGCOLWIN. -/
def execScan3E (s : State) : Result := .next (composeRow 0x3E#6 s)

/-- `SCAN.3F` (R220): SPR0 SPR1 BG0 BG1 CMATH BGCOLWIN. -/
def execScan3F (s : State) : Result := .next (composeRow 0x3F#6 s)

end Sys2Proof.Machine
end

