-- ==== Sys2Proof/Machine/Dispatch.lean ====
section
/-!
DEFINITION. One arm per instruction, each a direct call of its meaning.
-/

namespace Sys2Proof.Machine

def exec (i : Instr) (s : State) : Host.Outcome State Fault Refusal :=
  match i with
  | .hdmaNop value => Sys2Proof.Machine.execHdmaNop value s
  | .hdmaWMainColour value => Sys2Proof.Machine.execHdmaWMainColour value s
  | .hdmaWSubColour value => Sys2Proof.Machine.execHdmaWSubColour value s
  | .hdmaWWin1Left value => Sys2Proof.Machine.execHdmaWWin1Left value s
  | .hdmaWWin1Right value => Sys2Proof.Machine.execHdmaWWin1Right value s
  | .hdmaWWin2Left value => Sys2Proof.Machine.execHdmaWWin2Left value s
  | .hdmaWWin2Right value => Sys2Proof.Machine.execHdmaWWin2Right value s
  | .hdmaWBgcolWindows value => Sys2Proof.Machine.execHdmaWBgcolWindows value s
  | .hdmaWMainFlags value => Sys2Proof.Machine.execHdmaWMainFlags value s
  | .hdmaWCmathFade value => Sys2Proof.Machine.execHdmaWCmathFade value s
  | .hdmaWCmathFlags value => Sys2Proof.Machine.execHdmaWCmathFlags value s
  | .hdmaWBg0X value => Sys2Proof.Machine.execHdmaWBg0X value s
  | .hdmaWBg0Y value => Sys2Proof.Machine.execHdmaWBg0Y value s
  | .hdmaWBg0Windows value => Sys2Proof.Machine.execHdmaWBg0Windows value s
  | .hdmaWBg0Flags value => Sys2Proof.Machine.execHdmaWBg0Flags value s
  | .hdmaWBg1X value => Sys2Proof.Machine.execHdmaWBg1X value s
  | .hdmaWBg1Y value => Sys2Proof.Machine.execHdmaWBg1Y value s
  | .hdmaWBg1Windows value => Sys2Proof.Machine.execHdmaWBg1Windows value s
  | .hdmaWBg1Flags value => Sys2Proof.Machine.execHdmaWBg1Flags value s
  | .hdmaWHdmaEnable value => Sys2Proof.Machine.execHdmaWHdmaEnable value s
  | .hdmaDisable value => Sys2Proof.Machine.execHdmaDisable value s
  | .hdmaRsvd21 tag value => Sys2Proof.Machine.execHdmaRsvd21 tag value s
  | .hdmaRsvd22 tag value => Sys2Proof.Machine.execHdmaRsvd22 tag value s
  | .hdmaRsvd24 tag value => Sys2Proof.Machine.execHdmaRsvd24 tag value s
  | .hdmaRsvd32 tag value => Sys2Proof.Machine.execHdmaRsvd32 tag value s
  | .hdmaRsvd64 tag value => Sys2Proof.Machine.execHdmaRsvd64 tag value s
  | .hdmaRsvd128 tag value => Sys2Proof.Machine.execHdmaRsvd128 tag value s
  | .hdmaRsvd256 tag value => Sys2Proof.Machine.execHdmaRsvd256 tag value s
  | .hdmaRsvd512 tag value => Sys2Proof.Machine.execHdmaRsvd512 tag value s
  | .hdmaRsvd1024 tag value => Sys2Proof.Machine.execHdmaRsvd1024 tag value s
  | .hdmaRsvd2048 tag value => Sys2Proof.Machine.execHdmaRsvd2048 tag value s
  | .hdmaRsvd4096 tag value => Sys2Proof.Machine.execHdmaRsvd4096 tag value s
  | .hdmaRsvd8192 tag value => Sys2Proof.Machine.execHdmaRsvd8192 tag value s
  | .hdmaRsvd16384 tag value => Sys2Proof.Machine.execHdmaRsvd16384 tag value s
  | .hdmaRsvd32768 tag value => Sys2Proof.Machine.execHdmaRsvd32768 tag value s
  | .render v => Sys2Proof.Machine.execRender v s
  | .blank v => Sys2Proof.Machine.execBlank v s
  | .sprblit0 n => Sys2Proof.Machine.execSprblit0 n s
  | .sprblit1 n => Sys2Proof.Machine.execSprblit1 n s
  | .sprblit2 n => Sys2Proof.Machine.execSprblit2 n s
  | .sprblit3 n => Sys2Proof.Machine.execSprblit3 n s
  | .sprblit4 n => Sys2Proof.Machine.execSprblit4 n s
  | .sprblit5 n => Sys2Proof.Machine.execSprblit5 n s
  | .sprblit6 n => Sys2Proof.Machine.execSprblit6 n s
  | .sprblit7 n => Sys2Proof.Machine.execSprblit7 n s
  | .sprblit8 n => Sys2Proof.Machine.execSprblit8 n s
  | .sprblit9 n => Sys2Proof.Machine.execSprblit9 n s
  | .sprblit10 n => Sys2Proof.Machine.execSprblit10 n s
  | .sprblit11 n => Sys2Proof.Machine.execSprblit11 n s
  | .sprblit12 n => Sys2Proof.Machine.execSprblit12 n s
  | .sprblit13 n => Sys2Proof.Machine.execSprblit13 n s
  | .sprblit14 n => Sys2Proof.Machine.execSprblit14 n s
  | .sprblit15 n => Sys2Proof.Machine.execSprblit15 n s
  | .scan00 => Sys2Proof.Machine.execScan00 s
  | .scan01 => Sys2Proof.Machine.execScan01 s
  | .scan02 => Sys2Proof.Machine.execScan02 s
  | .scan03 => Sys2Proof.Machine.execScan03 s
  | .scan04 => Sys2Proof.Machine.execScan04 s
  | .scan05 => Sys2Proof.Machine.execScan05 s
  | .scan06 => Sys2Proof.Machine.execScan06 s
  | .scan07 => Sys2Proof.Machine.execScan07 s
  | .scan08 => Sys2Proof.Machine.execScan08 s
  | .scan09 => Sys2Proof.Machine.execScan09 s
  | .scan0A => Sys2Proof.Machine.execScan0A s
  | .scan0B => Sys2Proof.Machine.execScan0B s
  | .scan0C => Sys2Proof.Machine.execScan0C s
  | .scan0D => Sys2Proof.Machine.execScan0D s
  | .scan0E => Sys2Proof.Machine.execScan0E s
  | .scan0F => Sys2Proof.Machine.execScan0F s
  | .scan10 => Sys2Proof.Machine.execScan10 s
  | .scan11 => Sys2Proof.Machine.execScan11 s
  | .scan12 => Sys2Proof.Machine.execScan12 s
  | .scan13 => Sys2Proof.Machine.execScan13 s
  | .scan14 => Sys2Proof.Machine.execScan14 s
  | .scan15 => Sys2Proof.Machine.execScan15 s
  | .scan16 => Sys2Proof.Machine.execScan16 s
  | .scan17 => Sys2Proof.Machine.execScan17 s
  | .scan18 => Sys2Proof.Machine.execScan18 s
  | .scan19 => Sys2Proof.Machine.execScan19 s
  | .scan1A => Sys2Proof.Machine.execScan1A s
  | .scan1B => Sys2Proof.Machine.execScan1B s
  | .scan1C => Sys2Proof.Machine.execScan1C s
  | .scan1D => Sys2Proof.Machine.execScan1D s
  | .scan1E => Sys2Proof.Machine.execScan1E s
  | .scan1F => Sys2Proof.Machine.execScan1F s
  | .scan20 => Sys2Proof.Machine.execScan20 s
  | .scan21 => Sys2Proof.Machine.execScan21 s
  | .scan22 => Sys2Proof.Machine.execScan22 s
  | .scan23 => Sys2Proof.Machine.execScan23 s
  | .scan24 => Sys2Proof.Machine.execScan24 s
  | .scan25 => Sys2Proof.Machine.execScan25 s
  | .scan26 => Sys2Proof.Machine.execScan26 s
  | .scan27 => Sys2Proof.Machine.execScan27 s
  | .scan28 => Sys2Proof.Machine.execScan28 s
  | .scan29 => Sys2Proof.Machine.execScan29 s
  | .scan2A => Sys2Proof.Machine.execScan2A s
  | .scan2B => Sys2Proof.Machine.execScan2B s
  | .scan2C => Sys2Proof.Machine.execScan2C s
  | .scan2D => Sys2Proof.Machine.execScan2D s
  | .scan2E => Sys2Proof.Machine.execScan2E s
  | .scan2F => Sys2Proof.Machine.execScan2F s
  | .scan30 => Sys2Proof.Machine.execScan30 s
  | .scan31 => Sys2Proof.Machine.execScan31 s
  | .scan32 => Sys2Proof.Machine.execScan32 s
  | .scan33 => Sys2Proof.Machine.execScan33 s
  | .scan34 => Sys2Proof.Machine.execScan34 s
  | .scan35 => Sys2Proof.Machine.execScan35 s
  | .scan36 => Sys2Proof.Machine.execScan36 s
  | .scan37 => Sys2Proof.Machine.execScan37 s
  | .scan38 => Sys2Proof.Machine.execScan38 s
  | .scan39 => Sys2Proof.Machine.execScan39 s
  | .scan3A => Sys2Proof.Machine.execScan3A s
  | .scan3B => Sys2Proof.Machine.execScan3B s
  | .scan3C => Sys2Proof.Machine.execScan3C s
  | .scan3D => Sys2Proof.Machine.execScan3D s
  | .scan3E => Sys2Proof.Machine.execScan3E s
  | .scan3F => Sys2Proof.Machine.execScan3F s
  | .cmath00 => Sys2Proof.Machine.execCmath00 s
  | .cmath01 => Sys2Proof.Machine.execCmath01 s
  | .cmath02 => Sys2Proof.Machine.execCmath02 s
  | .cmath03 => Sys2Proof.Machine.execCmath03 s
  | .cmath04 => Sys2Proof.Machine.execCmath04 s
  | .cmath05 => Sys2Proof.Machine.execCmath05 s
  | .cmath06 => Sys2Proof.Machine.execCmath06 s
  | .cmath07 => Sys2Proof.Machine.execCmath07 s
  | .cmath08 => Sys2Proof.Machine.execCmath08 s
  | .cmath09 => Sys2Proof.Machine.execCmath09 s
  | .cmath0A => Sys2Proof.Machine.execCmath0A s
  | .cmath0B => Sys2Proof.Machine.execCmath0B s
  | .cmath0C => Sys2Proof.Machine.execCmath0C s
  | .cmath0D => Sys2Proof.Machine.execCmath0D s
  | .cmath0E => Sys2Proof.Machine.execCmath0E s
  | .cmath0F => Sys2Proof.Machine.execCmath0F s
  | .cmath10 => Sys2Proof.Machine.execCmath10 s
  | .cmath11 => Sys2Proof.Machine.execCmath11 s
  | .cmath12 => Sys2Proof.Machine.execCmath12 s
  | .cmath13 => Sys2Proof.Machine.execCmath13 s
  | .cmath14 => Sys2Proof.Machine.execCmath14 s
  | .cmath15 => Sys2Proof.Machine.execCmath15 s
  | .cmath16 => Sys2Proof.Machine.execCmath16 s
  | .cmath17 => Sys2Proof.Machine.execCmath17 s
  | .cmath18 => Sys2Proof.Machine.execCmath18 s
  | .cmath19 => Sys2Proof.Machine.execCmath19 s
  | .cmath1A => Sys2Proof.Machine.execCmath1A s
  | .cmath1B => Sys2Proof.Machine.execCmath1B s
  | .cmath1C => Sys2Proof.Machine.execCmath1C s
  | .cmath1D => Sys2Proof.Machine.execCmath1D s
  | .cmath1E => Sys2Proof.Machine.execCmath1E s
  | .cmath1F => Sys2Proof.Machine.execCmath1F s
  | .cmath20 => Sys2Proof.Machine.execCmath20 s
  | .cmath21 => Sys2Proof.Machine.execCmath21 s
  | .cmath22 => Sys2Proof.Machine.execCmath22 s
  | .cmath23 => Sys2Proof.Machine.execCmath23 s
  | .cmath24 => Sys2Proof.Machine.execCmath24 s
  | .cmath25 => Sys2Proof.Machine.execCmath25 s
  | .cmath26 => Sys2Proof.Machine.execCmath26 s
  | .cmath27 => Sys2Proof.Machine.execCmath27 s
  | .cmath28 => Sys2Proof.Machine.execCmath28 s
  | .cmath29 => Sys2Proof.Machine.execCmath29 s
  | .cmath2A => Sys2Proof.Machine.execCmath2A s
  | .cmath2B => Sys2Proof.Machine.execCmath2B s
  | .cmath2C => Sys2Proof.Machine.execCmath2C s
  | .cmath2D => Sys2Proof.Machine.execCmath2D s
  | .cmath2E => Sys2Proof.Machine.execCmath2E s
  | .cmath2F => Sys2Proof.Machine.execCmath2F s
  | .cmath30 => Sys2Proof.Machine.execCmath30 s
  | .cmath31 => Sys2Proof.Machine.execCmath31 s
  | .cmath32 => Sys2Proof.Machine.execCmath32 s
  | .cmath33 => Sys2Proof.Machine.execCmath33 s
  | .cmath34 => Sys2Proof.Machine.execCmath34 s
  | .cmath35 => Sys2Proof.Machine.execCmath35 s
  | .cmath36 => Sys2Proof.Machine.execCmath36 s
  | .cmath37 => Sys2Proof.Machine.execCmath37 s
  | .cmath38 => Sys2Proof.Machine.execCmath38 s
  | .cmath39 => Sys2Proof.Machine.execCmath39 s
  | .cmath3A => Sys2Proof.Machine.execCmath3A s
  | .cmath3B => Sys2Proof.Machine.execCmath3B s
  | .cmath3C => Sys2Proof.Machine.execCmath3C s
  | .cmath3D => Sys2Proof.Machine.execCmath3D s
  | .cmath3E => Sys2Proof.Machine.execCmath3E s
  | .cmath3F => Sys2Proof.Machine.execCmath3F s
  | .cmath40 => Sys2Proof.Machine.execCmath40 s
  | .cmath41 => Sys2Proof.Machine.execCmath41 s
  | .cmath42 => Sys2Proof.Machine.execCmath42 s
  | .cmath43 => Sys2Proof.Machine.execCmath43 s
  | .cmath44 => Sys2Proof.Machine.execCmath44 s
  | .cmath45 => Sys2Proof.Machine.execCmath45 s
  | .cmath46 => Sys2Proof.Machine.execCmath46 s
  | .cmath47 => Sys2Proof.Machine.execCmath47 s
  | .cmath48 => Sys2Proof.Machine.execCmath48 s
  | .cmath49 => Sys2Proof.Machine.execCmath49 s
  | .cmath4A => Sys2Proof.Machine.execCmath4A s
  | .cmath4B => Sys2Proof.Machine.execCmath4B s
  | .cmath4C => Sys2Proof.Machine.execCmath4C s
  | .cmath4D => Sys2Proof.Machine.execCmath4D s
  | .cmath4E => Sys2Proof.Machine.execCmath4E s
  | .cmath4F => Sys2Proof.Machine.execCmath4F s
  | .cmath50 => Sys2Proof.Machine.execCmath50 s
  | .cmath51 => Sys2Proof.Machine.execCmath51 s
  | .cmath52 => Sys2Proof.Machine.execCmath52 s
  | .cmath53 => Sys2Proof.Machine.execCmath53 s
  | .cmath54 => Sys2Proof.Machine.execCmath54 s
  | .cmath55 => Sys2Proof.Machine.execCmath55 s
  | .cmath56 => Sys2Proof.Machine.execCmath56 s
  | .cmath57 => Sys2Proof.Machine.execCmath57 s
  | .cmath58 => Sys2Proof.Machine.execCmath58 s
  | .cmath59 => Sys2Proof.Machine.execCmath59 s
  | .cmath5A => Sys2Proof.Machine.execCmath5A s
  | .cmath5B => Sys2Proof.Machine.execCmath5B s
  | .cmath5C => Sys2Proof.Machine.execCmath5C s
  | .cmath5D => Sys2Proof.Machine.execCmath5D s
  | .cmath5E => Sys2Proof.Machine.execCmath5E s
  | .cmath5F => Sys2Proof.Machine.execCmath5F s
  | .cmath60 => Sys2Proof.Machine.execCmath60 s
  | .cmath61 => Sys2Proof.Machine.execCmath61 s
  | .cmath62 => Sys2Proof.Machine.execCmath62 s
  | .cmath63 => Sys2Proof.Machine.execCmath63 s
  | .cmath64 => Sys2Proof.Machine.execCmath64 s
  | .cmath65 => Sys2Proof.Machine.execCmath65 s
  | .cmath66 => Sys2Proof.Machine.execCmath66 s
  | .cmath67 => Sys2Proof.Machine.execCmath67 s
  | .cmath68 => Sys2Proof.Machine.execCmath68 s
  | .cmath69 => Sys2Proof.Machine.execCmath69 s
  | .cmath6A => Sys2Proof.Machine.execCmath6A s
  | .cmath6B => Sys2Proof.Machine.execCmath6B s
  | .cmath6C => Sys2Proof.Machine.execCmath6C s
  | .cmath6D => Sys2Proof.Machine.execCmath6D s
  | .cmath6E => Sys2Proof.Machine.execCmath6E s
  | .cmath6F => Sys2Proof.Machine.execCmath6F s
  | .cmath70 => Sys2Proof.Machine.execCmath70 s
  | .cmath71 => Sys2Proof.Machine.execCmath71 s
  | .cmath72 => Sys2Proof.Machine.execCmath72 s
  | .cmath73 => Sys2Proof.Machine.execCmath73 s
  | .cmath74 => Sys2Proof.Machine.execCmath74 s
  | .cmath75 => Sys2Proof.Machine.execCmath75 s
  | .cmath76 => Sys2Proof.Machine.execCmath76 s
  | .cmath77 => Sys2Proof.Machine.execCmath77 s
  | .cmath78 => Sys2Proof.Machine.execCmath78 s
  | .cmath79 => Sys2Proof.Machine.execCmath79 s
  | .cmath7A => Sys2Proof.Machine.execCmath7A s
  | .cmath7B => Sys2Proof.Machine.execCmath7B s
  | .cmath7C => Sys2Proof.Machine.execCmath7C s
  | .cmath7D => Sys2Proof.Machine.execCmath7D s
  | .cmath7E => Sys2Proof.Machine.execCmath7E s
  | .cmath7F => Sys2Proof.Machine.execCmath7F s
  | .cmath80 => Sys2Proof.Machine.execCmath80 s
  | .cmath81 => Sys2Proof.Machine.execCmath81 s
  | .cmath82 => Sys2Proof.Machine.execCmath82 s
  | .cmath83 => Sys2Proof.Machine.execCmath83 s
  | .cmath84 => Sys2Proof.Machine.execCmath84 s
  | .cmath85 => Sys2Proof.Machine.execCmath85 s
  | .cmath86 => Sys2Proof.Machine.execCmath86 s
  | .cmath87 => Sys2Proof.Machine.execCmath87 s
  | .cmath88 => Sys2Proof.Machine.execCmath88 s
  | .cmath89 => Sys2Proof.Machine.execCmath89 s
  | .cmath8A => Sys2Proof.Machine.execCmath8A s
  | .cmath8B => Sys2Proof.Machine.execCmath8B s
  | .cmath8C => Sys2Proof.Machine.execCmath8C s
  | .cmath8D => Sys2Proof.Machine.execCmath8D s
  | .cmath8E => Sys2Proof.Machine.execCmath8E s
  | .cmath8F => Sys2Proof.Machine.execCmath8F s
  | .cmath90 => Sys2Proof.Machine.execCmath90 s
  | .cmath91 => Sys2Proof.Machine.execCmath91 s
  | .cmath92 => Sys2Proof.Machine.execCmath92 s
  | .cmath93 => Sys2Proof.Machine.execCmath93 s
  | .cmath94 => Sys2Proof.Machine.execCmath94 s
  | .cmath95 => Sys2Proof.Machine.execCmath95 s
  | .cmath96 => Sys2Proof.Machine.execCmath96 s
  | .cmath97 => Sys2Proof.Machine.execCmath97 s
  | .cmath98 => Sys2Proof.Machine.execCmath98 s
  | .cmath99 => Sys2Proof.Machine.execCmath99 s
  | .cmath9A => Sys2Proof.Machine.execCmath9A s
  | .cmath9B => Sys2Proof.Machine.execCmath9B s
  | .cmath9C => Sys2Proof.Machine.execCmath9C s
  | .cmath9D => Sys2Proof.Machine.execCmath9D s
  | .cmath9E => Sys2Proof.Machine.execCmath9E s
  | .cmath9F => Sys2Proof.Machine.execCmath9F s
  | .cmathA0 => Sys2Proof.Machine.execCmathA0 s
  | .cmathA1 => Sys2Proof.Machine.execCmathA1 s
  | .cmathA2 => Sys2Proof.Machine.execCmathA2 s
  | .cmathA3 => Sys2Proof.Machine.execCmathA3 s
  | .cmathA4 => Sys2Proof.Machine.execCmathA4 s
  | .cmathA5 => Sys2Proof.Machine.execCmathA5 s
  | .cmathA6 => Sys2Proof.Machine.execCmathA6 s
  | .cmathA7 => Sys2Proof.Machine.execCmathA7 s
  | .cmathA8 => Sys2Proof.Machine.execCmathA8 s
  | .cmathA9 => Sys2Proof.Machine.execCmathA9 s
  | .cmathAA => Sys2Proof.Machine.execCmathAA s
  | .cmathAB => Sys2Proof.Machine.execCmathAB s
  | .cmathAC => Sys2Proof.Machine.execCmathAC s
  | .cmathAD => Sys2Proof.Machine.execCmathAD s
  | .cmathAE => Sys2Proof.Machine.execCmathAE s
  | .cmathAF => Sys2Proof.Machine.execCmathAF s
  | .cmathB0 => Sys2Proof.Machine.execCmathB0 s
  | .cmathB1 => Sys2Proof.Machine.execCmathB1 s
  | .cmathB2 => Sys2Proof.Machine.execCmathB2 s
  | .cmathB3 => Sys2Proof.Machine.execCmathB3 s
  | .cmathB4 => Sys2Proof.Machine.execCmathB4 s
  | .cmathB5 => Sys2Proof.Machine.execCmathB5 s
  | .cmathB6 => Sys2Proof.Machine.execCmathB6 s
  | .cmathB7 => Sys2Proof.Machine.execCmathB7 s
  | .cmathB8 => Sys2Proof.Machine.execCmathB8 s
  | .cmathB9 => Sys2Proof.Machine.execCmathB9 s
  | .cmathBA => Sys2Proof.Machine.execCmathBA s
  | .cmathBB => Sys2Proof.Machine.execCmathBB s
  | .cmathBC => Sys2Proof.Machine.execCmathBC s
  | .cmathBD => Sys2Proof.Machine.execCmathBD s
  | .cmathBE => Sys2Proof.Machine.execCmathBE s
  | .cmathBF => Sys2Proof.Machine.execCmathBF s
  | .cmathC0 => Sys2Proof.Machine.execCmathC0 s
  | .cmathC1 => Sys2Proof.Machine.execCmathC1 s
  | .cmathC2 => Sys2Proof.Machine.execCmathC2 s
  | .cmathC3 => Sys2Proof.Machine.execCmathC3 s
  | .cmathC4 => Sys2Proof.Machine.execCmathC4 s
  | .cmathC5 => Sys2Proof.Machine.execCmathC5 s
  | .cmathC6 => Sys2Proof.Machine.execCmathC6 s
  | .cmathC7 => Sys2Proof.Machine.execCmathC7 s
  | .cmathC8 => Sys2Proof.Machine.execCmathC8 s
  | .cmathC9 => Sys2Proof.Machine.execCmathC9 s
  | .cmathCA => Sys2Proof.Machine.execCmathCA s
  | .cmathCB => Sys2Proof.Machine.execCmathCB s
  | .cmathCC => Sys2Proof.Machine.execCmathCC s
  | .cmathCD => Sys2Proof.Machine.execCmathCD s
  | .cmathCE => Sys2Proof.Machine.execCmathCE s
  | .cmathCF => Sys2Proof.Machine.execCmathCF s
  | .cmathD0 => Sys2Proof.Machine.execCmathD0 s
  | .cmathD1 => Sys2Proof.Machine.execCmathD1 s
  | .cmathD2 => Sys2Proof.Machine.execCmathD2 s
  | .cmathD3 => Sys2Proof.Machine.execCmathD3 s
  | .cmathD4 => Sys2Proof.Machine.execCmathD4 s
  | .cmathD5 => Sys2Proof.Machine.execCmathD5 s
  | .cmathD6 => Sys2Proof.Machine.execCmathD6 s
  | .cmathD7 => Sys2Proof.Machine.execCmathD7 s
  | .cmathD8 => Sys2Proof.Machine.execCmathD8 s
  | .cmathD9 => Sys2Proof.Machine.execCmathD9 s
  | .cmathDA => Sys2Proof.Machine.execCmathDA s
  | .cmathDB => Sys2Proof.Machine.execCmathDB s
  | .cmathDC => Sys2Proof.Machine.execCmathDC s
  | .cmathDD => Sys2Proof.Machine.execCmathDD s
  | .cmathDE => Sys2Proof.Machine.execCmathDE s
  | .cmathDF => Sys2Proof.Machine.execCmathDF s
  | .cmathE0 => Sys2Proof.Machine.execCmathE0 s
  | .cmathE1 => Sys2Proof.Machine.execCmathE1 s
  | .cmathE2 => Sys2Proof.Machine.execCmathE2 s
  | .cmathE3 => Sys2Proof.Machine.execCmathE3 s
  | .cmathE4 => Sys2Proof.Machine.execCmathE4 s
  | .cmathE5 => Sys2Proof.Machine.execCmathE5 s
  | .cmathE6 => Sys2Proof.Machine.execCmathE6 s
  | .cmathE7 => Sys2Proof.Machine.execCmathE7 s
  | .cmathE8 => Sys2Proof.Machine.execCmathE8 s
  | .cmathE9 => Sys2Proof.Machine.execCmathE9 s
  | .cmathEA => Sys2Proof.Machine.execCmathEA s
  | .cmathEB => Sys2Proof.Machine.execCmathEB s
  | .cmathEC => Sys2Proof.Machine.execCmathEC s
  | .cmathED => Sys2Proof.Machine.execCmathED s
  | .cmathEE => Sys2Proof.Machine.execCmathEE s
  | .cmathEF => Sys2Proof.Machine.execCmathEF s
  | .cmathF0 => Sys2Proof.Machine.execCmathF0 s
  | .cmathF1 => Sys2Proof.Machine.execCmathF1 s
  | .cmathF2 => Sys2Proof.Machine.execCmathF2 s
  | .cmathF3 => Sys2Proof.Machine.execCmathF3 s
  | .cmathF4 => Sys2Proof.Machine.execCmathF4 s
  | .cmathF5 => Sys2Proof.Machine.execCmathF5 s
  | .cmathF6 => Sys2Proof.Machine.execCmathF6 s
  | .cmathF7 => Sys2Proof.Machine.execCmathF7 s
  | .cmathF8 => Sys2Proof.Machine.execCmathF8 s
  | .cmathF9 => Sys2Proof.Machine.execCmathF9 s
  | .cmathFA => Sys2Proof.Machine.execCmathFA s
  | .cmathFB => Sys2Proof.Machine.execCmathFB s
  | .cmathFC => Sys2Proof.Machine.execCmathFC s
  | .cmathFD => Sys2Proof.Machine.execCmathFD s
  | .cmathFE => Sys2Proof.Machine.execCmathFE s
  | .cmathFF => Sys2Proof.Machine.execCmathFF s
  | .winnib0 => Sys2Proof.Machine.execWinnib0 s
  | .winnib1 => Sys2Proof.Machine.execWinnib1 s
  | .winnib2 => Sys2Proof.Machine.execWinnib2 s
  | .winnib3 => Sys2Proof.Machine.execWinnib3 s
  | .winnib4 => Sys2Proof.Machine.execWinnib4 s
  | .winnib5 => Sys2Proof.Machine.execWinnib5 s
  | .winnib6 => Sys2Proof.Machine.execWinnib6 s
  | .winnib7 => Sys2Proof.Machine.execWinnib7 s
  | .winnib8 => Sys2Proof.Machine.execWinnib8 s
  | .winnib9 => Sys2Proof.Machine.execWinnib9 s
  | .winnibA => Sys2Proof.Machine.execWinnibA s
  | .winnibB => Sys2Proof.Machine.execWinnibB s
  | .winnibC => Sys2Proof.Machine.execWinnibC s
  | .winnibD => Sys2Proof.Machine.execWinnibD s
  | .winnibE => Sys2Proof.Machine.execWinnibE s
  | .winnibF => Sys2Proof.Machine.execWinnibF s

end Sys2Proof.Machine
end

