-- ==== Sys2Proof/Machine/Sequencer.lean ====
section
/-!
DEFINITION. The render sequencer and the host port, one step at a time: what `Step.lean` calls. While idle a step performs the
host's next access. While busy a step is one turn of the row loop of `46_forced_blank_and_render.md` R303: the turn of one HDMA
table (`40_hdma.md` R140), or, once the row's HDMA phase is over, the cull, the window mask and the scanline microcode. Log 8.
-/

namespace Sys2Proof.Machine

/-- `g` applied to the next state, if there is one. -/
def onNext (r : Result) (g : State → State) : Result :=
  match r with
  | .next s => .next (g s)
  | .fault f => .fault f
  | .refused q => .refused q

/-- Decode a word and run its instruction. -/
def runCode (c : Code) (s : State) : Result :=
  match decode c with
  | .ok i => exec i s
  | .error (.notACommand n) => .refused (.noCommandRegister n)

/-! ### The HDMA phase -/

/-- The entry that table `TBL` has for row `ROW` (`40_hdma.md` R141). -/
def State.currentEntry (s : State) : Entry := Mem.entry s.hdma (hdmaIndex s.pc.tbl.toNat s.row)

/-- `pc <- (ROW, t+1)`: finishing table `t` (`10_state.md` R48). -/
def advanceTable (s : State) : State := s.setPc ⟨s.pc.row, s.pc.tbl + 1⟩

/-- The turn of table `TBL`: its enable bit is sampled now, and a disabled table is skipped without reading its entry (R140). -/
def hdmaTurn (s : State) : Result :=
  if tableEnabled s.regs.hdmaEnable s.pc.tbl.toNat then onNext (runCode (.hdma s.currentEntry) s) advanceTable
  else .next (advanceTable s)

/-! ### The composition of the row -/

/-- A sprite layer is enabled in MAIN_FLAGS (`41_sprite_cache.md` R184). -/
def spritesWanted (s : State) : Bool := keySpr0 (mainKeyOf s.regs.mainFlags) || keySpr1 (mainKeyOf s.regs.mainFlags)

/-- The cull, when a sprite layer is enabled, and the window mask (R303, R184, `42_window_mask.md` R207). -/
def prepareRow (s : State) : State := windowMask (if spritesWanted s then cull s else s)

/-- The end of a row: the next row of the section, or, after the section's last row, idle with `pc` kept (`10_state.md` R48,
R46). -/
def finishRow (s : State) : State :=
  if s.rowInSection + 1 = Config.sectionRows then s.setBusy 0#1
  else s.setPc ⟨s.pc.row + 1, 0⟩

/-- The rest of a row once its HDMA phase is over: the scanline microcode that MAIN_FLAGS selects now (`43_composition.md`
R221). -/
def composeTurn (s : State) : Result := onNext (runCode (.mainKey s.regs.mainFlags) (prepareRow s)) finishRow

/-- One turn of the row loop. -/
def busyTurn (s : State) : Result := if s.pc.tbl.toNat < 8 then hdmaTurn s else composeTurn s

/-! ### The host port -/

/-- The host's next access is a read of STATUS, the only access it may make while `BUSY = 1` (`20_memory.md` R79). -/
def pollsStatus (s : State) : Bool :=
  match s.host with
  | .read (.reg n) :: _ => n == 36#6
  | _ => false

/-- The host's next access: a command runs as an instruction, any other access is plain; with none, nothing changes. -/
def hostTurn (s : State) : Result :=
  match s.host with
  | [] => .next s
  | a :: rest =>
    match hostCode a with
    | some c => runCode c (s.setHost rest)
    | none => .next ((s.setHost rest).access a)

/-- One step of the machine. A singly dispatched word comes first (log 2); while busy the host waits, but for reads of STATUS
(log 7). -/
def machineStep (s : State) : Result :=
  match s.dispatch with
  | some c => runCode c (s.setDispatch none)
  | none => if s.busy = 1#1 && !pollsStatus s then busyTurn s else hostTurn s

/-! ### Placing a word where the next step fetches -/

/-- The table whose turn the next fetch is: `TBL` while the HDMA phase lasts, else 0. -/
def fetchTable (s : State) : BitVec 4 := if s.pc.tbl.toNat < 8 then s.pc.tbl else 0

/-- `s` with the word of `spec/opcode_table.json`'s numbering placed where the next step fetches. An HDMA entry is stored in the
table whose turn it is, that table enabled and a render in progress; any other word goes to `dispatch`. The host's pending
accesses are dropped, so that no read of STATUS comes first. Logs 1, 2 and 15. -/
def placeWord (nbits w : Nat) (s : State) : State :=
  match tableCode nbits w with
  | .hdma e =>
    let t := fetchTable s
    ((((((s.setDispatch none).setHost []).setBusy 1#1).setPc ⟨s.pc.row, t⟩).setRegs
      { s.regs with hdmaEnable := s.regs.hdmaEnable ||| ((1#8) <<< t.toNat) }).setHdma
        (Mem.setEntry s.hdma (hdmaIndex t.toNat s.row) e))
  | c => s.setDispatch (some c)

end Sys2Proof.Machine
end

