-- ==== Sys2Proof/Machine/Rules.lean ====
section
/-!
DEFINITION. The rules' own loops and tables, written from the pseudocode beside the machine and never called by it: the
statements say that the machine's steps and its column-by-column operations do what they do.
-/

namespace Sys2Proof.Machine

/-! ### The render of one section as a single transition (`00_scope.md` R14) -/

/-- `HdmaExec(t, tag, value)` by tag number: tags 1 to 19 write the register of the same number, tag 20 clears table `t`'s
enable bit, every other tag does nothing (`40_hdma.md` R141, `30_encoding.md` R103). -/
def hdmaExec (t : Nat) (e : Entry) (s : State) : State :=
  if 1 ≤ (entryTag e).toNat ∧ (entryTag e).toNat ≤ 19 then s.writeStore (entryTag e).toNat (entryValue e)
  else if (entryTag e).toNat = 20 then s.setRegs { s.regs with hdmaEnable := tableCleared s.regs.hdmaEnable t }
  else s

/-- One turn of the loop of `HdmaApply` (R140). -/
def hdmaApplyTable (row t : Nat) (s : State) : State :=
  let s1 := s.setPc ⟨BitVec.ofNat 8 row, BitVec.ofNat 4 t⟩
  if tableEnabled s1.regs.hdmaEnable t then hdmaExec t (Mem.entry s1.hdma (hdmaIndex t row)) s1 else s1

/-- `HdmaApply(row)` (R140). -/
def hdmaApply (row : Nat) (s : State) : State :=
  ((List.range 8).foldl (fun s t => hdmaApplyTable row t s) s).setPc ⟨BitVec.ofNat 8 row, 8⟩

/-- One row of `RenderSection` (R303). -/
def renderRow (row : Nat) (s : State) : State :=
  let s1 := hdmaApply row s
  let s2 := if s1.regs.mainFlags.getLsbD 0 || s1.regs.mainFlags.getLsbD 1 then cull s1 else s1
  let s3 := windowMask s2
  composeRow (mainKeyOf s3.regs.mainFlags) s3

/-- The rows of section `t` in ascending order (R303, R304). -/
def renderRows (t : Nat) (s : State) : State :=
  (List.range Config.sectionRows).foldl (fun s i => renderRow (Config.sectionRows * t + i) s) s

/-- `RENDER s` as one transition (R300, R303) for a machine that is not in forced blank. -/
def renderSection (t : Nat) (s : State) : State :=
  (renderRows t ((s.setBusy 1#1).setFbLatch s.fbBase)).setBusy 0#1

/-! ### The blit as a loop over the sprite's screen columns -/

/-- `LayerWrite(c, p, m, wb)` on both line buffers (`43_composition.md` R230). -/
def layerWrite (c : Nat) (p : Pixel) (m : Bool) (wb : Byte) (s : State) : State :=
  s.setLines
    (if p ≠ 0 ∧ visMain wb (s.laneAt c) = true then s.main.set c (if m then p ||| 0x8000#16 else p) else s.main)
    (if p ≠ 0 ∧ visSub wb (s.laneAt c) = true then s.sub.set c (if m then p ||| 0x8000#16 else p) else s.sub)

/-- `SprBlit(i, row)` as the loop of `44_sprite_blit.md` R250, for key `q`. -/
def blitLoop (q : BitVec 4) (i : Byte) (s : State) : State :=
  let S := s.sprite i
  let sy := srcCoord ((s.row : Int) - S.y.toInt) (S.height.toNat : Int) (blitFlipY q) (blitDouble q)
  (List.range (screenSize S.width (blitDouble q))).foldl
    (fun u lx =>
      let c : Int := S.x.toInt + (lx : Int)
      if c < 0 ∨ c > 239 then u
      else
        let sx := srcCoord (lx : Int) (S.width.toNat : Int) (blitFlipX q) (blitDouble q)
        layerWrite c.toNat (sprPixel s (S.gx &&& 0xF8#8) S.gy sx sy) (blitCmath q) S.windows u)
    s

/-- The pixel of sprite `S` at screen column `c` of row `row`, by R250 to R256 on integers: the flip, the doubling and the
wrap of the blit key's byte `b` (`flags[5:2]` in their places). Meant for columns the sprite covers. -/
def spritePixelRule (s : State) (S : Sprite) (b : Byte) (row c : Nat) : Pixel :=
  let zoom : Int := if b.getLsbD 5 then 2 else 1
  let kx : Int := ((c : Int) - S.x.toInt) / zoom
  let ky : Int := ((row : Int) - S.y.toInt) / zoom
  let sx : Int := if b.getLsbD 2 then (S.width.toNat : Int) - 1 - kx else kx
  let sy : Int := if b.getLsbD 3 then (S.height.toNat : Int) - 1 - ky else ky
  let ax : Nat := ((((S.gx.toNat / 8 * 8 : Nat) : Int) + sx) % 256).toNat
  let ay : Nat := (((S.gy.toNat : Int) + sy) % 256).toNat
  Mem.half s.sprAtlas (256 * ay + ax)

/-- Sprite `S` covers screen column `c` under the blit byte `b` (R250, R254). -/
def spriteCovers (S : Sprite) (b : Byte) (c : Nat) : Prop :=
  S.x.toInt ≤ (c : Int) ∧ (c : Int) < S.x.toInt + (if b.getLsbD 5 then 2 else 1) * (S.width.toNat : Int)

/-- The pixel a background with scroll `x`, `y` and tile map `map` has at column `c` of row `row`, on integers
(`43_composition.md` R228, R229; `30_encoding.md` R110). -/
def bgPixelRule (s : State) (map : Mem) (x y : Half) (row c : Nat) : Pixel :=
  let fx : Nat := (((c : Int) + x.toInt) % 512).toNat
  let fy : Nat := (((row : Int) + y.toInt) % 512).toNat
  let t : Nat := (Mem.half map (64 * (fy / 8) + fx / 8)).toNat
  Mem.half s.bgAtlas (256 * (8 * (t / 32 % 64) + fy % 8) + (8 * (t % 32) + fx % 8))

/-! ### The z-order as a search from the top (`43_composition.md` R231) -/

/-- A pixel a layer supplies at a column where it is opaque and visible, with the layer's marker (R230). -/
def supplied (vis m : Bool) (p : Pixel) : Option Pixel :=
  if p = 0 ∨ vis = false then none else some (if m then p ||| 0x8000#16 else p)

/-- What sprite `i` supplies at column `c`; `vis` is `visMain` or `visSub`. -/
def spriteSupply (vis : Byte → Byte → Bool) (s : State) (c : Nat) (i : Byte) : Option Pixel :=
  let S := s.sprite i
  match sprColumn s S (sprKeyOf S.flags) s.row c with
  | none => none
  | some p => supplied (vis S.windows (s.laneAt c)) (S.flags.getLsbD 4) p

/-- What background `b` supplies at column `c`. -/
def bgSupply (vis : Byte → Byte → Bool) (s : State) (c : Nat) (b : Background) : Option Pixel :=
  supplied (vis b.windows (s.laneAt c)) (b.flags.getLsbD 0) (bgColumn s b s.row c)

/-- The valid slots of a cache list, up to the sentinel (`41_sprite_cache.md` R183). -/
def validSlots (l : List Slot) : List Byte := (l.takeWhile Option.isSome).filterMap id

/-- What the layers of key `k` supply at column `c`, from the top down: class-1 sprites from the highest index, background 1,
background 0, class-0 sprites from the highest index (R231). -/
def suppliesFromTop (vis : Byte → Byte → Bool) (k : BitVec 6) (s : State) (c : Nat) : List (Option Pixel) :=
  (if k.getLsbD 1 then (validSlots s.cache1).reverse.map (spriteSupply vis s c) else []) ++
  (if k.getLsbD 3 then [bgSupply vis s c s.background1] else []) ++
  (if k.getLsbD 2 then [bgSupply vis s c s.background0] else []) ++
  (if k.getLsbD 0 then (validSlots s.cache0).reverse.map (spriteSupply vis s c) else [])

/-- The topmost pixel supplied, or the fallback's. -/
def topmost (l : List (Option Pixel)) (fallbackPixel : Pixel) : Pixel := (l.findSome? id).getD fallbackPixel

/-- The fallback pixel of a screen (`43_composition.md` R222). -/
def fallbackPixel (vis : Byte → Byte → Bool) (k : BitVec 6) (s : State) (colour : Pixel) (c : Nat) : Pixel :=
  if k.getLsbD 5 = true ∧ vis s.regs.bgcolWindows (s.laneAt c) = false then 0 else colour

/-! ### The nibble functions' formulas (`42_window_mask.md` R206, last column) -/

/-- The row of R206's table for nibble `n`. -/
def nibbleFormula (n : Nat) (in1 in2 : Bool) : Bool :=
  match n with
  | 0 => false
  | 1 => in1
  | 2 => in2
  | 3 => in1 || in2
  | 4 => in1 && in2
  | 5 => in1
  | 6 => in2
  | 7 => in1 || in2
  | 8 => !in1 && !in2
  | 9 => in1 || !in2
  | 10 => in2 || !in1
  | 11 => true
  | 12 => in1 == in2
  | 13 => in1 || !in2
  | 14 => in2 || !in1
  | _ => true

/-! ### The blend on integers (`45_color_math.md` R281) -/

/-- `Blend(m, s, f)` read off R281 line by line, on integers, `lvl` being `L`. -/
def blendSpec (f : Byte) (lvl : Int) (m s : Int) : Int :=
  let m := if f.getLsbD 1 then min 31 (2 * m) else m
  let m := if f.getLsbD 0 then m / 2 else m
  let s := if f.getLsbD 3 then min 31 (2 * s) else s
  let s := if f.getLsbD 2 then s / 2 else s
  let m := if f.getLsbD 4 then min 31 (m + s) else m
  let m := if f.getLsbD 5 then max 0 (m - s) else m
  if f.getLsbD 6 then m * lvl / 256 else m

/-! ### Register widths (`10_state.md` R47) -/

/-- The width in bits of State Store register `n`. -/
def storeWidth (n : Nat) : Nat := if n ∈ [7, 8, 10, 13, 14, 17, 18, 19] then 8 else 16

/-- The place of the 16-bit entry `h` of x[34]. -/
def basePlace : Nat → Place
  | 0 => .reg 34#6
  | h + 1 => .baseHigh h

end Sys2Proof.Machine
end

