-- ==== Sys2Proof/Safety.lean ====
section
/-!
DEFINITION. What counts as a safe run, in the terms statements use: the states a run can be in, the state without its scratch,
and the precondition of a render.
-/

namespace Sys2Proof.Machine

/-- Every space is in canonical form and lists nothing outside its size (`10_state.md` R50, `20_memory.md` R70). -/
def MemOk (s : State) : Prop :=
  (Mem.wf storeDefault s.oam ∧ Mem.below 2560 s.oam) ∧
  (Mem.wf storeDefault s.map0 ∧ Mem.below 8192 s.map0) ∧
  (Mem.wf storeDefault s.map1 ∧ Mem.below 8192 s.map1) ∧
  (Mem.wf storeDefault s.bgAtlas ∧ Mem.below 262144 s.bgAtlas) ∧
  (Mem.wf storeDefault s.sprAtlas ∧ Mem.below 131072 s.sprAtlas) ∧
  (Mem.wf noDefault s.hdma ∧ Mem.below 7680 s.hdma) ∧
  (Mem.wf noDefault s.fb ∧ Mem.below (2 * 2 ^ Config.fbAW) s.fb)

/-- The scratch rows have 240 columns and the cache lists 16 slots (`10_state.md` R55 to R57). -/
def ScratchOk (s : State) : Prop :=
  s.cache0.length = 16 ∧ s.cache1.length = 16 ∧ s.wmask.length = 240 ∧ s.main.length = 240 ∧ s.sub.length = 240 ∧
  s.out.length = 240 ∧ s.select.length = 240

/-- `ROW` is a display row and `TBL` at most 8 (`10_state.md` R48); frame-buffer addresses have `FB_AW` bits (R44). -/
def SequencerOk (s : State) : Prop :=
  s.pc.row.toNat < 240 ∧ s.pc.tbl.toNat ≤ 8 ∧ s.fbBase < 2 ^ Config.fbAW ∧ s.fbLatch < 2 ^ Config.fbAW

/-- `x[FORCED_BLANK] = 0` implies `x[BLANKED] = 0` (`10_state.md` R43). -/
def BlankOk (s : State) : Prop := s.forcedBlank = 0#1 → s.blanked = 0#4

/-- The states a run can be in. -/
def Inv (s : State) : Prop := MemOk s ∧ ScratchOk s ∧ SequencerOk s ∧ BlankOk s ∧ s.dispatch = none

/-- The state without its scratch: the sprite cache, the window mask, the line buffers, the output row and the select lines
(`10_state.md` R55 to R57, R60). -/
def State.eraseScratch (s : State) : State :=
  ((((s.setCache [] []).setWmask []).setLines [] []).setOut []).setSelect []

/-- The states differ in their scratch alone. -/
def SameButScratch (s t : State) : Prop := s.eraseScratch = t.eraseScratch

/-- A render is in progress, no word is dispatched singly and the host does not read STATUS next: the next step is the
sequencer's. -/
def Rendering (s : State) : Prop := s.busy = 1#1 ∧ s.dispatch = none ∧ pollsStatus s = false

/-- The precondition of `RENDER` that `60_exceptions.md` R322 and `93_implementation_defined.md` U2 set: none of the 14400 addresses a
render from `base` writes lies in a range that is not frame-buffer memory of the platform. Log 28. -/
def RegionBacked (s : State) (base : Nat) : Prop :=
  ∀ r ∈ s.fbAbsent, ∀ k < 14400,
    ¬(r.first ≤ (base + k) % 2 ^ Config.fbAW ∧ (base + k) % 2 ^ Config.fbAW < r.first + r.count)

end Sys2Proof.Machine
end

