-- ==== Sys2Proof/Certificates/Slice0/Obligations.lean ====
section
/-!
DEFINITION. The statements for the provers. Where a statement's frame says `t = s.setRegs t.regs` and the like, every other
field is the same data, so every register, every byte of every memory and every scratch row reads as before.
-/

open Sys2Proof Sys2Proof.Machine

/-! ### Encoding -/

/-- Decoding the word of a well-formed instruction gives the instruction back, for all 389 constructors and every operand
(`30_encoding.md` R101 to R104, R111 to R114, R119). -/
def Obligations.DecodeOfEncodeIsTheInstruction : Prop :=
  ∀ i : Instr, i.wf = true → decode (encode i) = .ok i

/-- No bit of an HDMA entry is lost: every one of the 2^32 entries decodes, and to a well-formed instruction whose word is the
entry (`40_hdma.md` R141: decode is total). -/
def Obligations.EveryEntryDecodesAndEncodesBack : Prop :=
  ∀ e : Entry, ∃ i : Instr, decode (.hdma e) = .ok i ∧ i.wf = true ∧ encode i = .hdma e

/-- A key byte decodes to the instruction of its key bits: the ignored bits of a main flags byte, a sprite's flags byte and a
window nibble's byte are dropped, no other (R111 to R114, R115), and a host command keeps all of its value. -/
def Obligations.EveryKeyDecodesToItsKeyBits : Prop :=
  (∀ b : Byte, ∃ i, decode (.mainKey b) = .ok i ∧ encode i = .mainKey (b &&& 0x3F#8)) ∧
  (∀ n b : Byte, ∃ i, decode (.sprKey n b) = .ok i ∧ encode i = .sprKey n (b &&& 0x3C#8)) ∧
  (∀ b : Byte, ∃ i, decode (.cmathKey b) = .ok i ∧ encode i = .cmathKey b) ∧
  (∀ b : Byte, ∃ i, decode (.winNib b) = .ok i ∧ encode i = .winNib (b &&& 0x0F#8)) ∧
  (∀ v : Half, decode (.hostWrite 35#6 v) = .ok (.render v) ∧ decode (.hostWrite 32#6 v) = .ok (.blank v))

/-- The decoder agrees with `spec/opcode_table.json`: a word that lies in the row of `i` decodes to an instruction of that very
row. So no two rows of one format overlap. (The two host-command rows have mask 0 and are told apart by the register number,
which no mask holds: R121.) -/
def Obligations.DecoderFollowsTheOpcodeTable : Prop :=
  ∀ (i j : Instr) (c : Code), c.format ≠ .hostWrite → i.row.holds c → decode c = .ok j → j.row = i.row

/-- Words written out from the spec's encodings decode to the instructions they stand for: R103's example, the examples of R143,
R149, R162 and R163, and one key of each table. -/
def Obligations.WordsOfTheSpecDecode : Prop :=
  decode (.hdma 0x00000000#32) = .ok (.hdmaNop 0) ∧
  decode (.hdma 0x00200003#32) = .ok (.hdmaWWin1Left 32) ∧
  decode (.hdma 0x801F0001#32) = .ok (.hdmaWMainColour 0x801F) ∧
  decode (.hdma 0x12F80007#32) = .ok (.hdmaWBgcolWindows 0x12F8) ∧
  decode (.hdma 0x00000014#32) = .ok (.hdmaDisable 0) ∧
  decode (.hdma 0x1234FFFF#32) = .ok (.hdmaRsvd32768 0xFFFF 0x1234) ∧
  decode (.mainKey 0xC5#8) = .ok .scan05 ∧
  decode (.sprKey 3 0x2D#8) = .ok (.sprblit11 3) ∧
  decode (.cmathKey 0x90#8) = .ok .cmath90 ∧
  decode (.winNib 0x0C#8) = .ok .winnibC ∧
  decode (.hostWrite 35#6 7) = .ok (.render 7) ∧
  decode (.hostWrite 32#6 1) = .ok (.blank 1)

/-! ### HDMA commands -/

/-- The 19 commands `HDMA.W.*` (tags 1 to 19): each completes in every state, stores its value truncated to the register's
width in the register of its tag's number, and changes nothing else (`40_hdma.md` R143 to R161, R166; `10_state.md` R21, R47). -/
def Obligations.HdmaWriteStoresItsRegisterOnly : Prop :=
  ∀ (i : Instr) (e : Entry) (s : State), i.wf = true → encode i = .hdma e →
    1 ≤ (entryTag e).toNat → (entryTag e).toNat ≤ 19 →
    ∃ t, exec i s = .next t ∧ t = s.setRegs t.regs ∧
      ∀ n : Nat, t.regs.read n =
        if n = (entryTag e).toNat then BitVec.ofNat 16 ((entryValue e).toNat % 2 ^ storeWidth n) else s.regs.read n

/-- `HDMA.NOP` (tag 0) and the 14 rows `HDMA.RSVD` (tags 21 to 65535) complete in every state and change nothing, whatever the
value field holds (R142, R163, R104). -/
def Obligations.NopAndReservedTagsChangeNothing : Prop :=
  ∀ (i : Instr) (e : Entry) (s : State), i.wf = true → encode i = .hdma e →
    (entryTag e).toNat = 0 ∨ 21 ≤ (entryTag e).toNat → exec i s = .next s

/-- `HDMA.DISABLE` completes in every state, clears the owning table's bit of x[19], the table `pc` names, and changes nothing
else, whatever the value field holds (R162). (Where `pc` names no table it clears nothing, the model's choice: log 19.) -/
def Obligations.DisableClearsItsOwnBitOnly : Prop :=
  ∀ (value : Half) (s : State), ∃ t, exec (.hdmaDisable value) s = .next t ∧
    t = s.setRegs { s.regs with hdmaEnable := t.regs.hdmaEnable } ∧
    ∀ j < 8, t.regs.hdmaEnable.getLsbD j = (s.regs.hdmaEnable.getLsbD j && decide (j ≠ s.pc.tbl.toNat))

/-- Eight steps from the first table's turn are `HdmaApply(row)` as R140 writes it: ascending table order, each enable bit
sampled when the table's turn comes, each entry read at `240 * t + row`. (That a table's turn is one step is the model's: log 8.) -/
def Obligations.EightTurnsAreHdmaApply : Prop :=
  ∀ s : State, Rendering s → s.pc.tbl = 0#4 → Host.Core.run Sys2Proof.core 8 s = .next (hdmaApply s.row s)

/-! ### The window mask generator -/

/-- `WindowMask()` gives every column one of R202's four lanes, by the signed inclusive comparisons of R201, doubled as R203
says, and changes nothing else (R200). -/
def Obligations.WindowMaskIsTheRegionOfEachColumn : Prop :=
  ∀ s : State, windowMask s = s.setWmask (windowMask s).wmask ∧ ∀ c : Nat, c < 240 →
    let in1 := s.regs.win1Left.toInt ≤ (c : Int) ∧ (c : Int) ≤ s.regs.win1Right.toInt
    let in2 := s.regs.win2Left.toInt ≤ (c : Int) ∧ (c : Int) ≤ s.regs.win2Right.toInt
    (in1 ∧ in2 → (windowMask s).laneAt c = 0x77#8) ∧
    (in1 ∧ ¬in2 → (windowMask s).laneAt c = 0x11#8) ∧
    (¬in1 ∧ in2 → (windowMask s).laneAt c = 0x22#8) ∧
    (¬in1 ∧ ¬in2 → (windowMask s).laneAt c = 0x88#8)

/-- The 16 nibble functions: `WinSel(n, Region(in1, in2))` is the formula of R206's table for every nibble. -/
def Obligations.NibbleFunctionsAreTheirFormulas : Prop :=
  ∀ (n : BitVec 4) (in1 in2 : Bool), winSel n (region in1 in2) = nibbleFormula n.toNat in1 in2

/-- The 16 instructions `WINNIB.*`: each completes in every state and changes the select lines only; on the mask that
`WindowMask` built, line `c` is the formula of R206's table for the nibble. (That a lookup's result stands in select lines, read from the main nibble of
the mask, is the model's: logs 13 and 24.) -/
def Obligations.WindowNibbleSelectsByItsFormula : Prop :=
  ∀ (i : Instr) (b : Byte) (s : State), encode i = .winNib b →
    (∃ t, exec i s = .next t ∧ t = s.setSelect t.select) ∧
    exec i (windowMask s) =
      .next ((windowMask s).setSelect (row240 fun c => nibbleFormula b.toNat (s.in1 c) (s.in2 c)))

/-- `VisMain` and `VisSub` select by the low and the high nibble of a windows byte, each on the column's region (R204). -/
def Obligations.VisibilityIsANibbleOnTheRegion : Prop :=
  ∀ (wb : Byte) (reg : BitVec 4),
    visMain wb (laneOf reg) = winSel (wb.extractLsb' 0 4) reg ∧ visSub wb (laneOf reg) = winSel (wb.extractLsb' 4 4) reg

/-! ### The sprite cache -/

/-- A sprite is admitted exactly when its size is legal and its bounding box, doubled by `SPR_DOUBLE`, meets the row and the
screen's columns (R181). -/
def Obligations.AdmitIsTheBoundingBoxTest : Prop :=
  ∀ (S : Sprite) (row : Nat), admitted S row = true ↔
    (S.width = 8#8 ∨ S.width = 16#8) ∧ (S.height = 8#8 ∨ S.height = 16#8) ∧
    S.y.toInt ≤ (row : Int) ∧ S.y.toInt > (row : Int) - (if S.flags.getLsbD 5 then 2 else 1) * (S.height.toNat : Int) ∧
    S.x.toInt < 240 ∧ S.x.toInt > -((if S.flags.getLsbD 5 then 2 else 1) * (S.width.toNat : Int))

/-- After `Cull(row)` the list of class `k` holds, in ascending order, the first 16 indices of the sprites that are enabled, of
class `k`, with a window, and admitted, padded with the sentinel to 16 slots, and nothing else has changed (R180, R182, R183,
R185). -/
def Obligations.CullKeepsTheFirstSixteenOfEachClass : Prop :=
  ∀ s : State,
    let found := fun k : Bool => (((List.range 256).map (BitVec.ofNat 8)).filter fun i =>
      (s.sprite i).flags.getLsbD 0 && ((s.sprite i).flags.getLsbD 1 == k) && decide ((s.sprite i).windows ≠ 0)
        && admitted (s.sprite i) s.row).take 16
    cull s = s.setCache ((found false).map some ++ List.replicate (16 - (found false).length) none)
      ((found true).map some ++ List.replicate (16 - (found true).length) none)

/-! ### The blit -/

/-- The 16 instructions `SPRBLIT.*`, for every sprite: each completes in every state, changes the line buffers only, and writes
the pixel of R250 to R256 exactly at the columns the sprite covers where that pixel is opaque and the sprite's window shows it
on that screen, with the marker set when the key's `SPR_CMATH` is (R255, R257, R258, R260). (For a sprite that the culler passes over, which no
render blits, the same formulas are the model's choice: log 14.) -/
def Obligations.BlitWritesTheSpritesVisiblePixels : Prop :=
  ∀ (i : Instr) (n b : Byte) (s : State), encode i = .sprKey n b →
    ∃ t, exec i s = .next t ∧ t = s.setLines t.main t.sub ∧ ∀ c < 240,
      let S := s.sprite n
      let p := spritePixelRule s S b s.row c
      let q := if b.getLsbD 4 then p ||| 0x8000#16 else p
      (spriteCovers S b c ∧ p ≠ 0 ∧ visMain S.windows (s.laneAt c) = true → t.mainAt c = q) ∧
      (¬(spriteCovers S b c ∧ p ≠ 0 ∧ visMain S.windows (s.laneAt c) = true) → t.mainAt c = s.mainAt c) ∧
      (spriteCovers S b c ∧ p ≠ 0 ∧ visSub S.windows (s.laneAt c) = true → t.subAt c = q) ∧
      (¬(spriteCovers S b c ∧ p ≠ 0 ∧ visSub S.windows (s.laneAt c) = true) → t.subAt c = s.subAt c)

/-- The blit, computed column by column, is the loop of R250 over the sprite's screen columns, with its clipping (R260) and its
layer writes (`43_composition.md` R230). -/
def Obligations.BlitIsTheLoopOfItsRule : Prop :=
  ∀ (q : BitVec 4) (i : Byte) (s : State), s.main.length = 240 → s.sub.length = 240 →
    sprBlitKey q i s = blitLoop q i s

/-! ### Backgrounds, z-order, scanline microcodes -/

/-- A background row is one layer write per column of the pixel of R228 and R229, field coordinates modulo 512, marker from
`BG_CMATH`, each screen by its own nibble (R230); both backgrounds, each through its own registers and map (R224, R225). -/
def Obligations.BackgroundRowIsALayerWritePerColumn : Prop :=
  ∀ (s : State), ∀ c < 240,
    let rule := fun (x y : Half) (wb fl : Byte) (map : Mem) (t : State) =>
      let p := bgPixelRule s map x y s.row c
      let q := if fl.getLsbD 0 then p ||| 0x8000#16 else p
      t = s.setLines t.main t.sub ∧
      (p ≠ 0 ∧ visMain wb (s.laneAt c) = true → t.mainAt c = q) ∧
      (¬(p ≠ 0 ∧ visMain wb (s.laneAt c) = true) → t.mainAt c = s.mainAt c) ∧
      (p ≠ 0 ∧ visSub wb (s.laneAt c) = true → t.subAt c = q) ∧
      (¬(p ≠ 0 ∧ visSub wb (s.laneAt c) = true) → t.subAt c = s.subAt c)
    rule s.regs.bg0X s.regs.bg0Y s.regs.bg0Windows s.regs.bg0Flags s.map0 (bgRow s.background0 s) ∧
    rule s.regs.bg1X s.regs.bg1Y s.regs.bg1Windows s.regs.bg1Flags s.map1 (bgRow s.background1 s)

/-- On each screen the topmost layer that is enabled in the key, opaque at the column and window-visible there supplies the
pixel, in the order class-1 sprites, background 1, background 0, class-0 sprites, higher index on top; if none does the
fallback does (R231). -/
def Obligations.TopmostVisibleOpaqueLayerSuppliesThePixel : Prop :=
  ∀ (k : BitVec 6) (s : State), ∀ c < 240,
    (composeLayers k s).mainAt c =
      topmost (suppliesFromTop visMain k s c) (fallbackPixel visMain k s s.regs.mainColour c) ∧
    (composeLayers k s).subAt c =
      topmost (suppliesFromTop visSub k s c) (fallbackPixel visSub k s s.regs.subColour c)

/-- The 64 instructions `SCAN.*`: each completes in every state; the line buffers hold the layers of its key; the pixel of column
`c` is the main pixel, blended by the microcode of x[10] when the key's bit 4 is set (R227); it is stored at
`B + 240*i + c` modulo `2 ^ FB_AW` (R233, `20_memory.md` R78); every other frame-buffer address and everything but the line
buffers, the output row and the frame buffer is as before. -/
def Obligations.ScanStoresTheComposedRow : Prop :=
  ∀ (i : Instr) (b : Byte) (s : State), encode i = .mainKey b →
    ∃ t, exec i s = .next t ∧ t = ((s.setLines t.main t.sub).setOut t.out).setFb t.fb ∧
      t.main = (composeLayers (b.extractLsb' 0 6) s).main ∧ t.sub = (composeLayers (b.extractLsb' 0 6) s).sub ∧
      (∀ c < 240, Mem.pixel? t.fb ((s.fbLatch + 240 * (s.row % 60) + c) % 2 ^ Config.fbAW) = some
        (if b.getLsbD 4 then
          cmathPixel s.regs.cmathFlags (min s.regs.cmathFade.toNat 256) (t.mainAt c) (t.subAt c)
        else t.mainAt c)) ∧
      ∀ a, (∀ c < 240, a ≠ (s.fbLatch + 240 * (s.row % 60) + c) % 2 ^ Config.fbAW) → Mem.pixel? t.fb a = Mem.pixel? s.fb a

/-- With nothing enabled (key 0x00) the row is the two solid colours, and with BGCOLWIN alone (key 0x20) their windowed form; the
main one is stored (R234). -/
def Obligations.KeysWithoutLayersDrawTheFallbackColours : Prop :=
  ∀ s : State,
    (∃ t, exec .scan00 s = .next t ∧ ∀ c < 240, t.mainAt c = s.regs.mainColour ∧ t.subAt c = s.regs.subColour ∧
      Mem.pixel? t.fb ((s.fbLatch + 240 * (s.row % 60) + c) % 2 ^ Config.fbAW) = some s.regs.mainColour) ∧
    (∃ t, exec .scan20 s = .next t ∧ ∀ c < 240,
      t.mainAt c = (if visMain s.regs.bgcolWindows (s.laneAt c) then s.regs.mainColour else 0) ∧
      t.subAt c = (if visSub s.regs.bgcolWindows (s.laneAt c) then s.regs.subColour else 0) ∧
      Mem.pixel? t.fb ((s.fbLatch + 240 * (s.row % 60) + c) % 2 ^ Config.fbAW) = some (t.mainAt c))

/-! ### Colour math -/

/-- The 256 instructions `CMATH.*`: each completes in every state and changes the output row only (that a key run by itself leaves its
row in a field of the state, and that field alone changes, is the model's choice: log 13); a pixel is blended, channel by
channel by the stages of R281 on integers, exactly when CMATH_EN and the main pixel's marker are set, and keeps its marker; every
other pixel passes with all 16 bits (R270, R271, R280). -/
def Obligations.ColourMathBlendsTheMarkedPixels : Prop :=
  ∀ (i : Instr) (f : Byte) (s : State), encode i = .cmathKey f →
    ∃ t, exec i s = .next t ∧ t = s.setOut t.out ∧ ∀ c < 240,
      let m := s.mainAt c
      let u := s.subAt c
      let lvl : Int := min (s.regs.cmathFade.toNat : Int) 256
      let chan := fun (lo : Nat) (p : Pixel) => ((p.extractLsb' lo 5).toNat : Int)
      (f.getLsbD 7 = true ∧ m.getLsbD 15 = true →
        (t.outAt c).getLsbD 15 = true ∧
        ∀ lo ∈ [0, 5, 10], chan lo (t.outAt c) = blendSpec f lvl (chan lo m) (chan lo u)) ∧
      (¬(f.getLsbD 7 = true ∧ m.getLsbD 15 = true) → t.outAt c = m)

/-- The four properties of R284, for every row and column. -/
def Obligations.ColourMathProperties : Prop :=
  ∀ (f : Byte) (s : State), ∀ c < 240,
    (f.getLsbD 7 = false → (cmathRow f s).outAt c = s.mainAt c) ∧
    (f = 0x83#8 → (s.mainAt c).getLsbD 15 = true → ∀ lo ∈ [0, 5, 10],
      (((cmathRow f s).outAt c).extractLsb' lo 5).toNat = min 15 ((s.mainAt c).extractLsb' lo 5).toNat) ∧
    ((s.mainAt c).getLsbD 15 = false → (cmathRow f s).outAt c = s.mainAt c) ∧
    ((cmathRow f s).outAt c).getLsbD 15 = (s.mainAt c).getLsbD 15

/-! ### Host commands -/

/-- `RENDER` outside forced blank completes whenever `BUSY = 0` and the 14400 addresses are frame-buffer memory (R322): `BUSY` becomes 1, FB_BASE is latched, `pc` goes to the first row
and table of section `v[1:0]`, and nothing else changes (R45, R46, R48, R300). (That the rows follow as steps of their own, and that
the base stands in a field, are the model's: logs 8 and 12.) -/
def Obligations.RenderStartsItsSection : Prop :=
  ∀ (v : Half) (s : State), s.busy = 0#1 → RegionBacked s s.fbBase → s.forcedBlank = 0#1 →
    exec (.render v) s =
      .next (((s.setFbLatch s.fbBase).setPc ⟨BitVec.ofNat 8 (60 * (v.toNat % 4)), 0⟩).setBusy 1#1)

/-- `RENDER` under forced blank completes whenever `BUSY = 0` and the 14400 addresses are frame-buffer memory (R322), and `BUSY` is 0 after it: an already blanked section is left alone,
whatever FB_BASE is; any other has its 14400 addresses zeroed and its bit of BLANKED set; no register but BLANKED and no other
address changes (R301). (That the whole fill is one step, and that `pc` and the latch are set as for any render, are the model's: logs
8 and 17.) -/
def Obligations.ForcedBlankClearsASectionOnce : Prop :=
  ∀ (v : Half) (s : State), s.busy = 0#1 → RegionBacked s s.fbBase → s.forcedBlank = 1#1 →
    ∃ t, exec (.render v) s = .next t ∧
      t = (((s.setFb t.fb).setBlanking s.forcedBlank t.blanked).setFbLatch t.fbLatch).setPc t.pc ∧
      (s.blanked.getLsbD (v.toNat % 4) = true → t.fb = s.fb ∧ t.blanked = s.blanked) ∧
      (s.blanked.getLsbD (v.toNat % 4) = false →
        (∀ k < 14400, Mem.pixel? t.fb ((s.fbBase + k) % 2 ^ Config.fbAW) = some 0) ∧
        (∀ a, (∀ k < 14400, a ≠ (s.fbBase + k) % 2 ^ Config.fbAW) → Mem.pixel? t.fb a = Mem.pixel? s.fb a) ∧
        ∀ j < 4, t.blanked.getLsbD j = (s.blanked.getLsbD j || decide (j = v.toNat % 4)))

/-- `BLANK` completes whenever `BUSY = 0`: x[32] takes bit 0 of the value, writing 0 clears x[33], writing 1 keeps it, and nothing
else changes (R302). -/
def Obligations.BlankWritesTheFlagAndClearsTheTracking : Prop :=
  ∀ (v : Half) (s : State), s.busy = 0#1 → ∃ t, exec (.blank v) s = .next t ∧
    t = s.setBlanking t.forcedBlank t.blanked ∧ t.forcedBlank.toNat = v.toNat % 2 ∧
    (v.toNat % 2 = 0 → t.blanked = 0#4) ∧ (v.toNat % 2 = 1 → t.blanked = s.blanked)

/-- A host command issued while `BUSY = 1` is given no meaning: the model's reading of `93_implementation_defined.md` U3 as a refusal
(log 11). -/
def Obligations.HostCommandsAreRefusedWhileBusy : Prop :=
  ∀ (v : Half) (s : State), s.busy = 1#1 →
    exec (.render v) s = .refused .hostAccessWhileBusy ∧ exec (.blank v) s = .refused .hostAccessWhileBusy

/-! ### The step -/

/-- A step runs the decoded instruction: a singly dispatched word (log 2); the entry at `240 * TBL + ROW` when its table is enabled,
followed by `TBL + 1`, and a disabled table is skipped; the main key after the row is prepared, followed by the end of the row; a host
command at the head of the host's accesses. -/
def Obligations.StepRunsTheDecodedInstruction : Prop :=
  (∀ (s : State) (c : Code) (i : Instr), s.dispatch = some c → decode c = .ok i → step s = exec i (s.setDispatch none)) ∧
  (∀ (s : State) (i : Instr), Rendering s → s.pc.tbl.toNat < 8 → s.regs.hdmaEnable.getLsbD s.pc.tbl.toNat = true →
    decode (.hdma (Mem.entry s.hdma (240 * s.pc.tbl.toNat + s.row))) = .ok i →
    step s = onNext (exec i s) fun u => u.setPc ⟨u.pc.row, u.pc.tbl + 1⟩) ∧
  (∀ s : State, Rendering s → s.pc.tbl.toNat < 8 → s.regs.hdmaEnable.getLsbD s.pc.tbl.toNat = false →
    step s = .next (s.setPc ⟨s.pc.row, s.pc.tbl + 1⟩)) ∧
  (∀ (s : State) (i : Instr), Rendering s → 8 ≤ s.pc.tbl.toNat → decode (.mainKey s.regs.mainFlags) = .ok i →
    step s = onNext (exec i (prepareRow s)) finishRow) ∧
  (∀ (s : State) (a : HostAccess) (rest : List HostAccess) (c : Code) (i : Instr), s.busy = 0#1 → s.dispatch = none →
    s.host = a :: rest → hostCode a = some c → decode c = .ok i → step s = exec i (s.setHost rest))

/-- A word placed by `withFetchWord` is what the next step runs (the model's own placing: logs 1, 2 and 15). -/
def Obligations.NextStepRunsThePlacedWord : Prop :=
  ∀ (s : State) (nbits w : Nat) (i : Instr), decodeTableWord nbits w = some i →
    step (s.withFetchWord nbits w) =
      if nbits ≤ 8 then exec i (s.setDispatch none)
      else onNext (exec i (s.withFetchWord nbits w)) fun u => u.setPc ⟨u.pc.row, u.pc.tbl + 1⟩

/-- Nine steps from a row's first table's turn are one row of `RenderSection` (R303), followed by the end of the row (R48). (The number
of steps is the model's: log 8.) -/
def Obligations.NineStepsRenderARow : Prop :=
  ∀ s : State, Rendering s → s.pc.tbl = 0#4 → Host.Core.run Sys2Proof.core 9 s = .next (finishRow (renderRow s.row s))

/-- A `RENDER` that the host issues outside forced blank, followed by any number `k` of reads of STATUS, runs to completion: 541 + `k`
steps later the machine is idle, the last of those reads has returned 1, and the state is otherwise that of R300's and R303's render taken as one transition (`00_scope.md` R14, R304, R305). (The number of steps is the model's: log 8.) -/
def Obligations.RenderRunsItsSectionToCompletion : Prop :=
  ∀ (s : State) (v : Entry) (k : Nat) (rest : List HostAccess), s.busy = 0#1 → RegionBacked s s.fbBase → s.forcedBlank = 0#1 →
    s.dispatch = none → s.host = .write (.reg 35#6) v :: (List.replicate k (.read (.reg 36#6)) ++ rest) →
    pollsStatus (s.setHost rest) = false →
    Host.Core.run Sys2Proof.core (541 + k) s =
      .next (renderSection (v.toNat % 4) ((s.setHost rest).setHostData (if k = 0 then s.hostData else 1)))

/-- The render of a section stores a pixel at each of the 14400 addresses from FB_BASE on, modulo `2 ^ FB_AW`, and at no other
(`20_memory.md` R78, `43_composition.md` R232). -/
def Obligations.SectionStoresItsRegionAndNothingElse : Prop :=
  ∀ (s : State), ∀ t < 4,
    (∀ k < 14400, (Mem.pixel? (renderSection t s).fb ((s.fbBase + k) % 2 ^ Config.fbAW)).isSome = true) ∧
    ∀ a, (∀ k < 14400, a ≠ (s.fbBase + k) % 2 ^ Config.fbAW) → Mem.pixel? (renderSection t s).fb a = Mem.pixel? s.fb a

/-- No step stops but a launch that R322 refuses: without a singly dispatched word, a step that serves a `RENDER` whose 14400 addresses
are not all frame-buffer memory is refused, and every other step answers a next state (`60_exceptions.md` R320: nothing faults,
traps or aborts). -/
def Obligations.EveryStepAnswersANextState : Prop :=
  ∀ s : State, s.dispatch = none →
    let refusedLaunch := s.busy = 0#1 ∧ (∃ v rest, s.host = .write (.reg 35#6) v :: rest) ∧ ¬RegionBacked s s.fbBase
    (refusedLaunch → step s = .refused .frameBufferAbsent) ∧ (¬refusedLaunch → ∃ t, step s = .next t)

/-- What a step of a render can change: x[1]..x[19], BUSY, `pc`, the scratch, and the 14400 addresses from the latched base on; OAM, the
maps, the atlases, the HDMA tables, x[32], x[33], x[34] and the host's side stay as they are (R306, `20_memory.md` R83). -/
def Obligations.RenderingChangesOnlyWhatTheSpecLists : Prop :=
  ∀ s t : State, Rendering s → step s = .next t →
    t.oam = s.oam ∧ t.map0 = s.map0 ∧ t.map1 = s.map1 ∧ t.bgAtlas = s.bgAtlas ∧ t.sprAtlas = s.sprAtlas ∧ t.hdma = s.hdma ∧
    t.forcedBlank = s.forcedBlank ∧ t.blanked = s.blanked ∧ t.fbBase = s.fbBase ∧ t.fbLatch = s.fbLatch ∧ t.fbAbsent = s.fbAbsent ∧
    t.host = s.host ∧ t.hostData = s.hostData ∧ t.dispatch = none ∧
    ∀ a, (∀ k < 14400, a ≠ (s.fbLatch + k) % 2 ^ Config.fbAW) → Mem.pixel? t.fb a = Mem.pixel? s.fb a

/-- The scratch state never shows: two machines that differ in the sprite cache, the window mask, the line buffers, the output row and
the select lines alone run alike for any number of steps, and again differ in those alone (`41_sprite_cache.md` R186,
`42_window_mask.md` R207, `43_composition.md` R222, R235; `93_implementation_defined.md` U4). -/
def Obligations.ScratchStateNeverShows : Prop :=
  ∀ (n : Nat) (s s' t : State), SameButScratch s s' → s.dispatch = none → Host.Core.run Sys2Proof.core n s = .next t →
    ∃ t', Host.Core.run Sys2Proof.core n s' = .next t' ∧ SameButScratch t t'

/-! ### Invariants and reset -/

/-- Every step keeps the invariant: memories canonical and within their spaces, scratch of its size, `ROW` below 240 and `TBL` at
most 8, addresses of `FB_AW` bits, and BLANKED zero unless FORCED_BLANK is set (`10_state.md` R43, R48). -/
def Obligations.StepKeepsTheInvariant : Prop :=
  ∀ s t : State, Inv s → step s = .next t → Inv t

/-- The machine after reset meets the invariant (its scratch values and `pc` are the model's choice, log 4). -/
def Obligations.ResetMeetsTheInvariant : Prop := Inv State.reset

/-- After reset every register reads 0, FB_BASE is 0 in all its `FB_AW` bits, the sequencer is idle, and every entry of OAM, the maps
and the atlases is 0 (`10_state.md` R61, `70_reset_and_hazards.md` R350). -/
def Obligations.ResetReadsAsTheSpecSays : Prop :=
  (∀ n : BitVec 6, State.reset.readReg n = 0) ∧ State.reset.fbBase = 0 ∧ State.reset.busy = 0#1 ∧
  ∀ k, Mem.half State.reset.oam k = 0 ∧ Mem.half State.reset.map0 k = 0 ∧ Mem.half State.reset.map1 k = 0 ∧
    Mem.half State.reset.bgAtlas k = 0 ∧ Mem.half State.reset.sprAtlas k = 0

/-- Any section rendered from the reset state stores 14400 pixels of value 0 from address 0 on and nothing else, and changes no
register: x[1] to x[19], x[32] to x[34] and BUSY after it are as at reset (R351; that nothing is listed elsewhere is how the model
holds the platform's memory at reset, log 9). -/
def Obligations.ResetStateRendersBlack : Prop :=
  ∀ t < 4,
    (renderSection t State.reset).regs = State.reset.regs ∧
    (renderSection t State.reset).forcedBlank = State.reset.forcedBlank ∧
    (renderSection t State.reset).blanked = State.reset.blanked ∧
    (renderSection t State.reset).fbBase = State.reset.fbBase ∧
    (renderSection t State.reset).busy = State.reset.busy ∧
    (∀ a < 14400, Mem.pixel? (renderSection t State.reset).fb a = some 0) ∧
    ∀ a, 14400 ≤ a → Mem.pixel? (renderSection t State.reset).fb a = none

/-! ### The host port -/

/-- A host read while idle returns the entry and changes nothing but the host's own side (`20_memory.md` R73). -/
def Obligations.HostReadHasNoSideEffect : Prop :=
  ∀ (s : State) (p : Place) (rest : List HostAccess), s.busy = 0#1 → s.dispatch = none → s.host = .read p :: rest →
    step s = .next ((s.setHost rest).setHostData (s.readPlace p))

/-- A read of STATUS is served while a render is in progress, returns 1, and does not disturb the render (`10_state.md` R46,
`20_memory.md` R79; that it is served before the sequencer's next turn is the model's order, log 7). -/
def Obligations.StatusReadsOneDuringARender : Prop :=
  ∀ (s : State) (rest : List HostAccess), s.busy = 1#1 → s.dispatch = none → s.host = .read (.reg 36#6) :: rest →
    step s = .next ((s.setHost rest).setHostData 1)

/-- An entry of a table, map or atlas reads back as written, truncated to its width, and every other entry of every space and every
register reads as before (`20_memory.md` R71, R73, R74). So does a 16-bit entry of x[34] above its first, without the bits beyond
`FB_AW` (R44; that x[34] has such entries is the model's choice, log 10). -/
def Obligations.EntryReadsBackAsWritten : Prop :=
  ∀ (s : State) (p q : Place) (v : Entry), MemOk s → (∀ n, p ≠ .reg n) →
    (∀ h, p = .baseHigh h → s.fbBase < 2 ^ Config.fbAW) →
    (s.writePlace p v).readPlace q =
      if q = p then
        match p with
        | .hdma _ _ => v
        | .baseHigh h => BitVec.ofNat 32 (v.toNat % 2 ^ 16 * 2 ^ (16 * (h + 1)) % 2 ^ Config.fbAW / 2 ^ (16 * (h + 1)))
        | _ => (v.truncate 16).zeroExtend 32
      else s.readPlace q

/-- The numbers 0, 20 to 31 and 37 upward name no register: each reads 0 and ignores every write (`10_state.md` R41). -/
def Obligations.UnassignedNumbersReadZeroAndIgnoreWrites : Prop :=
  ∀ (s : State) (n : BitVec 6) (v : Entry), n.toNat = 0 ∨ (20 ≤ n.toNat ∧ n.toNat ≤ 31) ∨ 37 ≤ n.toNat →
    s.readReg n = 0 ∧ s.writeReg n v = s

/-- A State Store register or FB_BASE reads back as written, truncated to its width, every other register as before; the read-only
registers x[33] and x[36] ignore a write; in every state x[32], x[33] and x[36] read FORCED_BLANK, BLANKED and BUSY, and x[35] reads 0
(`10_state.md` R21, R42 to R46). A `REG` access moves 16 bits (`20_memory.md` R71); that those of x[34] are its low 16 is the
model's choice (log 10). -/
def Obligations.RegisterReadsBackAsWritten : Prop :=
  ∀ (s : State) (n m : BitVec 6) (v : Entry),
    (1 ≤ n.toNat ∧ n.toNat ≤ 19 → (s.writeReg n v).readReg m =
      if m = n then BitVec.ofNat 32 (v.toNat % 2 ^ storeWidth n.toNat) else s.readReg m) ∧
    (n.toNat = 34 → (s.writeReg n v).readReg m =
      if m = n then BitVec.ofNat 32 (v.toNat % 2 ^ 16 % 2 ^ Config.fbAW) else s.readReg m) ∧
    (n.toNat = 33 ∨ n.toNat = 36 → s.writeReg n v = s) ∧
    (n.toNat = 32 → (s.readReg n).toNat = s.forcedBlank.toNat) ∧
    (n.toNat = 33 → (s.readReg n).toNat = s.blanked.toNat) ∧
    (n.toNat = 34 → (s.readReg n).toNat = s.fbBase % 2 ^ 16) ∧
    (n.toNat = 35 → s.readReg n = 0) ∧
    (n.toNat = 36 → (s.readReg n).toNat = s.busy.toNat)

/-- A host write while idle that is no command stores its entry and does nothing else but leave the queue: the step is `writePlace`, of
which WritePlaceChangesItsOwnSpaceOnly says what it leaves alone and EntryReadsBackAsWritten, UnassignedNumbersReadZeroAndIgnoreWrites
and RegisterReadsBackAsWritten what it stores (`20_memory.md` R73). -/
def Obligations.HostWriteStoresItsEntry : Prop :=
  ∀ (s : State) (p : Place) (v : Entry) (rest : List HostAccess), s.busy = 0#1 → s.dispatch = none → s.host = .write p v :: rest →
    p ≠ .reg 32#6 → p ≠ .reg 35#6 → step s = .next ((s.setHost rest).writePlace p v)

/-- FB_BASE moved whole by accesses of 16 bits while idle: `n` writes, of the entries of `a` from the lowest up, leave FB_BASE = `a`
whatever it was, for every `a` of `FB_AW` bits and every `n` that covers them, and change nothing else but the queue; and each entry
reads as its 16 bits of FB_BASE (`10_state.md` R44, `20_memory.md` R71; that x[34] has an entry per 16 bits is the model's choice,
log 10). -/
def Obligations.FrameBufferBaseMovesWhole : Prop :=
  (∀ (s : State) (a n : Nat) (rest : List HostAccess), s.busy = 0#1 → s.dispatch = none → a < 2 ^ Config.fbAW →
    Config.fbAW ≤ 16 * n →
    s.host = (List.range n).map (fun h => .write (basePlace h) (BitVec.ofNat 32 (a / 2 ^ (16 * h) % 2 ^ 16))) ++ rest →
    Host.Core.run Sys2Proof.core n s = .next ((s.setHost rest).setFbBase a)) ∧
  ∀ (s : State) (h : Nat), (s.readPlace (basePlace h)).toNat = s.fbBase / 2 ^ (16 * h) % 2 ^ 16

/-- An idle machine whose host makes no access retains all its state (`60_exceptions.md` R332; log 22). -/
def Obligations.IdleStepWithoutAnAccessChangesNothing : Prop :=
  ∀ s : State, s.busy = 0#1 → s.dispatch = none → s.host = [] → step s = .next s

/-- A `RENDER` whose 14400 addresses are not all frame-buffer memory of the platform is given no meaning, under forced blank or not
(`60_exceptions.md` R322, `93_implementation_defined.md` U2; that the platform's memory is a field is the model's, log 28). -/
def Obligations.RenderIsRefusedWithoutItsFrameBuffer : Prop :=
  ∀ (v : Half) (s : State), s.busy = 0#1 → ¬RegionBacked s s.fbBase → exec (.render v) s = .refused .frameBufferAbsent

/-- What R351 rests on, in every state: with no HDMA table enabled, key 0 and main colour 0, the render of any section changes no State
Store register and stores 0 at each of its 14400 addresses (R140, R234). -/
def Obligations.NothingEnabledRendersBlack : Prop :=
  ∀ (s : State), ∀ t < 4, s.regs.hdmaEnable = 0 → s.regs.mainFlags.extractLsb' 0 6 = 0 → s.regs.mainColour = 0 →
    (renderSection t s).regs = s.regs ∧
    ∀ k < 14400, Mem.pixel? (renderSection t s).fb ((s.fbBase + k) % 2 ^ Config.fbAW) = some 0

/-- The frame of a plain host write: it changes the space of its place and nothing else, so the frame buffer, `pc`, the latch, the
scratch, BUSY, FORCED_BLANK, BLANKED and the host's side are as before; of x[34] it changes the 16 bits of its entry alone
(`20_memory.md` R71, R73, `10_state.md` R50, R21; the entries of x[34] are the model's choice, log 10). -/
def Obligations.WritePlaceChangesItsOwnSpaceOnly : Prop :=
  ∀ (s : State) (p : Place) (v : Entry),
    let t := s.writePlace p v
    let baseEntry := fun h : Nat => t = s.setFbBase t.fbBase ∧ ∀ j, t.fbBase.testBit j =
      (decide (j < Config.fbAW) && if 16 * h ≤ j ∧ j < 16 * h + 16 then v.getLsbD (j - 16 * h) else s.fbBase.testBit j)
    match p with
    | .reg n =>
      (1 ≤ n.toNat ∧ n.toNat ≤ 19 → t = s.setRegs t.regs) ∧ (n.toNat = 34 → baseEntry 0) ∧
      (¬(1 ≤ n.toNat ∧ n.toNat ≤ 19) ∧ n.toNat ≠ 34 → t = s)
    | .baseHigh h => baseEntry (h + 1)
    | .oam _ _ => t = s.setOam t.oam
    | .map0 _ => t = s.setMap0 t.map0
    | .map1 _ => t = s.setMap1 t.map1
    | .bgAtlas _ => t = s.setBgAtlas t.bgAtlas
    | .sprAtlas _ => t = s.setSprAtlas t.sprAtlas
    | .hdma _ _ => t = s.setHdma t.hdma
end

