-- ==== Sys2Proof/Laws/Decode.lean ====
section
/-!
SUPPORT. The fields of an HDMA entry, and the masks of the opcode table's reserved blocks.
-/

namespace Sys2Proof

/-- The bits of an entry, half by half. -/
theorem entryOf_getLsbD (tag value : Half) (k : Nat) :
    (entryOf tag value).getLsbD k = if k < 16 then tag.getLsbD k else value.getLsbD (k - 16) := by
  have h := BitVec.getLsbD_append (x := value) (y := tag) (i := k)
  exact h

@[simp] theorem entryTag_entryOf (tag value : Half) : entryTag (entryOf tag value) = tag := by
  apply BitVec.eq_of_getLsbD_eq
  intro k hk
  rw [entryTag, BitVec.getLsbD_extractLsb', entryOf_getLsbD]
  simp [hk]

@[simp] theorem entryValue_entryOf (tag value : Half) : entryValue (entryOf tag value) = value := by
  apply BitVec.eq_of_getLsbD_eq
  intro k hk
  rw [entryValue, BitVec.getLsbD_extractLsb', entryOf_getLsbD]
  simp [hk]

/-- An entry is its two halves. -/
theorem entryOf_halves (e : Entry) : entryOf (entryTag e) (entryValue e) = e := by
  apply BitVec.eq_of_getLsbD_eq
  intro k hk
  rw [entryOf_getLsbD, entryTag, entryValue, BitVec.getLsbD_extractLsb', BitVec.getLsbD_extractLsb']
  split
  · simp_all
  · rw [show 16 + (k - 16) = k by omega]
    simp; omega

/-- The bits of an entry, byte by byte. -/
theorem entryOfBytes_getLsbD (b0 b1 b2 b3 : Byte) (k : Nat) :
    (entryOfBytes b0 b1 b2 b3).getLsbD k =
      if k < 8 then b0.getLsbD k else if k < 16 then b1.getLsbD (k - 8)
      else if k < 24 then b2.getLsbD (k - 16) else b3.getLsbD (k - 24) := by
  have h1 := BitVec.getLsbD_append (x := b3 ++ b2 ++ b1) (y := b0) (i := k)
  have h2 := BitVec.getLsbD_append (x := b3 ++ b2) (y := b1) (i := k - 8)
  have h3 := BitVec.getLsbD_append (x := b3) (y := b2) (i := k - 8 - 8)
  rw [h3] at h2
  rw [h2] at h1
  refine h1.trans ?_
  have e1 : k - 8 - 8 = k - 16 := by omega
  have e2 : k - 16 - 8 = k - 24 := by omega
  rw [e1, e2]
  split_ifs <;> first | rfl | omega

/-- An entry is its four little-endian bytes. -/
theorem entryOfBytes_bytes (e : Entry) :
    entryOfBytes (entryByte e 0) (entryByte e 1) (entryByte e 2) (entryByte e 3) = e := by
  apply BitVec.eq_of_getLsbD_eq
  intro k hk
  rw [entryOfBytes_getLsbD]
  simp only [entryByte, BitVec.getLsbD_extractLsb']
  have e1 : 8 ≤ k → 8 * 1 + (k - 8) = k := by omega
  have e2 : 16 ≤ k → 8 * 2 + (k - 16) = k := by omega
  have e3 : 24 ≤ k → 8 * 3 + (k - 24) = k := by omega
  split_ifs with h1 h2 h3
  · simp [h1]
  · rw [e1 (by omega)]; simp; omega
  · rw [e2 (by omega)]; simp; omega
  · rw [e3 (by omega)]; simp; omega

theorem tagIn_iff {lo hi : Nat} {tag : Half} : tagIn lo hi tag = true ↔ lo ≤ tag.toNat ∧ tag.toNat ≤ hi := by
  simp [tagIn]

/-- Under a mask within the tag's bits an entry shows its tag alone. -/
theorem entryOf_and_mask (tag value m : Half) :
    entryOf tag value &&& m.zeroExtend 32 = (tag &&& m).zeroExtend 32 := by
  apply BitVec.eq_of_getLsbD_eq
  intro k hk
  rw [BitVec.getLsbD_and, entryOf_getLsbD]
  simp only [BitVec.truncate_eq_setWidth, BitVec.getLsbD_setWidth, BitVec.getLsbD_and]
  split_ifs with h
  · simp [hk]
  · rw [BitVec.getLsbD_of_ge m k (by omega)]; simp

/-- A tag within a block of `2 ^ n` tags from a multiple of `2 ^ n` on has the block's high bits. -/
theorem block_mask (tag : Half) (n base : Nat) (hn : n ≤ 16)
    (h : base * 2 ^ n ≤ tag.toNat ∧ tag.toNat < base * 2 ^ n + 2 ^ n) :
    tag &&& (BitVec.allOnes 16 <<< n) = BitVec.ofNat 16 (base * 2 ^ n) := by
  apply BitVec.eq_of_getLsbD_eq
  intro k hk
  have hq : tag.toNat / 2 ^ n = base := by
    rw [Nat.div_eq_iff (by positivity)]; omega
  simp only [BitVec.getLsbD_and, BitVec.getLsbD_shiftLeft, BitVec.getLsbD_allOnes, BitVec.getLsbD_ofNat, hk, decide_true,
    Bool.true_and]
  by_cases hkn : k < n
  · simp [hkn, Nat.testBit_mul_two_pow]
  · have : tag.getLsbD k = (tag.toNat / 2 ^ n).testBit (k - n) := by
      rw [BitVec.getLsbD, Nat.testBit_div_two_pow]; congr 1; omega
    rw [this, hq, Nat.testBit_mul_two_pow]
    have hk' : k - n < 16 := by omega
    simp [hkn, hk', show n ≤ k by omega]

/-- An HDMA command's entry under the mask of its row, the whole tag. -/
theorem entryOf_full_mask (tag value : Half) : entryOf tag value &&& 0xFFFF#32 = tag.zeroExtend 32 := by
  have h := entryOf_and_mask tag value (BitVec.allOnes 16)
  rw [BitVec.and_allOnes] at h
  exact h

/-- A reserved entry under the mask of its row, the high bits of its tag. -/
theorem entryOf_block_mask {tag value : Half} {mask pattern : Entry} (n base : Nat) (hn : n ≤ 16)
    (hm : mask = (BitVec.allOnes 16 <<< n).zeroExtend 32) (hp : pattern = (BitVec.ofNat 16 (base * 2 ^ n)).zeroExtend 32)
    (h : base * 2 ^ n ≤ tag.toNat ∧ tag.toNat ≤ base * 2 ^ n + 2 ^ n - 1) :
    entryOf tag value &&& mask = pattern := by
  have hpos : 0 < 2 ^ n := by positivity
  rw [hm, entryOf_and_mask, block_mask tag n base hn ⟨h.1, by omega⟩, hp]

end Sys2Proof
end

