-- ==== Sys2Proof/Laws/State.lean ====
section
/-!
SUPPORT. One lemma per field per update of the state, each true by `rfl`, so that no proof unfolds an update.
-/

namespace Sys2Proof.Machine

@[simp] theorem State.setRegs_regs (s : State) (r : Regs) : (s.setRegs r).regs = r := rfl
@[simp] theorem State.setRegs_forcedBlank (s : State) (r : Regs) : (s.setRegs r).forcedBlank = s.forcedBlank := rfl
@[simp] theorem State.setRegs_blanked (s : State) (r : Regs) : (s.setRegs r).blanked = s.blanked := rfl
@[simp] theorem State.setRegs_fbBase (s : State) (r : Regs) : (s.setRegs r).fbBase = s.fbBase := rfl
@[simp] theorem State.setRegs_busy (s : State) (r : Regs) : (s.setRegs r).busy = s.busy := rfl
@[simp] theorem State.setRegs_pc (s : State) (r : Regs) : (s.setRegs r).pc = s.pc := rfl
@[simp] theorem State.setRegs_fbLatch (s : State) (r : Regs) : (s.setRegs r).fbLatch = s.fbLatch := rfl
@[simp] theorem State.setRegs_oam (s : State) (r : Regs) : (s.setRegs r).oam = s.oam := rfl
@[simp] theorem State.setRegs_map0 (s : State) (r : Regs) : (s.setRegs r).map0 = s.map0 := rfl
@[simp] theorem State.setRegs_map1 (s : State) (r : Regs) : (s.setRegs r).map1 = s.map1 := rfl
@[simp] theorem State.setRegs_bgAtlas (s : State) (r : Regs) : (s.setRegs r).bgAtlas = s.bgAtlas := rfl
@[simp] theorem State.setRegs_sprAtlas (s : State) (r : Regs) : (s.setRegs r).sprAtlas = s.sprAtlas := rfl
@[simp] theorem State.setRegs_hdma (s : State) (r : Regs) : (s.setRegs r).hdma = s.hdma := rfl
@[simp] theorem State.setRegs_fb (s : State) (r : Regs) : (s.setRegs r).fb = s.fb := rfl
@[simp] theorem State.setRegs_fbAbsent (s : State) (r : Regs) : (s.setRegs r).fbAbsent = s.fbAbsent := rfl
@[simp] theorem State.setRegs_cache0 (s : State) (r : Regs) : (s.setRegs r).cache0 = s.cache0 := rfl
@[simp] theorem State.setRegs_cache1 (s : State) (r : Regs) : (s.setRegs r).cache1 = s.cache1 := rfl
@[simp] theorem State.setRegs_wmask (s : State) (r : Regs) : (s.setRegs r).wmask = s.wmask := rfl
@[simp] theorem State.setRegs_main (s : State) (r : Regs) : (s.setRegs r).main = s.main := rfl
@[simp] theorem State.setRegs_sub (s : State) (r : Regs) : (s.setRegs r).sub = s.sub := rfl
@[simp] theorem State.setRegs_out (s : State) (r : Regs) : (s.setRegs r).out = s.out := rfl
@[simp] theorem State.setRegs_select (s : State) (r : Regs) : (s.setRegs r).select = s.select := rfl
@[simp] theorem State.setRegs_host (s : State) (r : Regs) : (s.setRegs r).host = s.host := rfl
@[simp] theorem State.setRegs_hostData (s : State) (r : Regs) : (s.setRegs r).hostData = s.hostData := rfl
@[simp] theorem State.setRegs_dispatch (s : State) (r : Regs) : (s.setRegs r).dispatch = s.dispatch := rfl

@[simp] theorem State.setBlanking_regs (s : State) (f : BitVec 1) (b : BitVec 4) : (s.setBlanking f b).regs = s.regs := rfl
@[simp] theorem State.setBlanking_forcedBlank (s : State) (f : BitVec 1) (b : BitVec 4) : (s.setBlanking f b).forcedBlank = f := rfl
@[simp] theorem State.setBlanking_blanked (s : State) (f : BitVec 1) (b : BitVec 4) : (s.setBlanking f b).blanked = b := rfl
@[simp] theorem State.setBlanking_fbBase (s : State) (f : BitVec 1) (b : BitVec 4) : (s.setBlanking f b).fbBase = s.fbBase := rfl
@[simp] theorem State.setBlanking_busy (s : State) (f : BitVec 1) (b : BitVec 4) : (s.setBlanking f b).busy = s.busy := rfl
@[simp] theorem State.setBlanking_pc (s : State) (f : BitVec 1) (b : BitVec 4) : (s.setBlanking f b).pc = s.pc := rfl
@[simp] theorem State.setBlanking_fbLatch (s : State) (f : BitVec 1) (b : BitVec 4) : (s.setBlanking f b).fbLatch = s.fbLatch := rfl
@[simp] theorem State.setBlanking_oam (s : State) (f : BitVec 1) (b : BitVec 4) : (s.setBlanking f b).oam = s.oam := rfl
@[simp] theorem State.setBlanking_map0 (s : State) (f : BitVec 1) (b : BitVec 4) : (s.setBlanking f b).map0 = s.map0 := rfl
@[simp] theorem State.setBlanking_map1 (s : State) (f : BitVec 1) (b : BitVec 4) : (s.setBlanking f b).map1 = s.map1 := rfl
@[simp] theorem State.setBlanking_bgAtlas (s : State) (f : BitVec 1) (b : BitVec 4) : (s.setBlanking f b).bgAtlas = s.bgAtlas := rfl
@[simp] theorem State.setBlanking_sprAtlas (s : State) (f : BitVec 1) (b : BitVec 4) : (s.setBlanking f b).sprAtlas = s.sprAtlas := rfl
@[simp] theorem State.setBlanking_hdma (s : State) (f : BitVec 1) (b : BitVec 4) : (s.setBlanking f b).hdma = s.hdma := rfl
@[simp] theorem State.setBlanking_fb (s : State) (f : BitVec 1) (b : BitVec 4) : (s.setBlanking f b).fb = s.fb := rfl
@[simp] theorem State.setBlanking_fbAbsent (s : State) (f : BitVec 1) (b : BitVec 4) : (s.setBlanking f b).fbAbsent = s.fbAbsent := rfl
@[simp] theorem State.setBlanking_cache0 (s : State) (f : BitVec 1) (b : BitVec 4) : (s.setBlanking f b).cache0 = s.cache0 := rfl
@[simp] theorem State.setBlanking_cache1 (s : State) (f : BitVec 1) (b : BitVec 4) : (s.setBlanking f b).cache1 = s.cache1 := rfl
@[simp] theorem State.setBlanking_wmask (s : State) (f : BitVec 1) (b : BitVec 4) : (s.setBlanking f b).wmask = s.wmask := rfl
@[simp] theorem State.setBlanking_main (s : State) (f : BitVec 1) (b : BitVec 4) : (s.setBlanking f b).main = s.main := rfl
@[simp] theorem State.setBlanking_sub (s : State) (f : BitVec 1) (b : BitVec 4) : (s.setBlanking f b).sub = s.sub := rfl
@[simp] theorem State.setBlanking_out (s : State) (f : BitVec 1) (b : BitVec 4) : (s.setBlanking f b).out = s.out := rfl
@[simp] theorem State.setBlanking_select (s : State) (f : BitVec 1) (b : BitVec 4) : (s.setBlanking f b).select = s.select := rfl
@[simp] theorem State.setBlanking_host (s : State) (f : BitVec 1) (b : BitVec 4) : (s.setBlanking f b).host = s.host := rfl
@[simp] theorem State.setBlanking_hostData (s : State) (f : BitVec 1) (b : BitVec 4) : (s.setBlanking f b).hostData = s.hostData := rfl
@[simp] theorem State.setBlanking_dispatch (s : State) (f : BitVec 1) (b : BitVec 4) : (s.setBlanking f b).dispatch = s.dispatch := rfl

@[simp] theorem State.setFbBase_regs (s : State) (a : Nat) : (s.setFbBase a).regs = s.regs := rfl
@[simp] theorem State.setFbBase_forcedBlank (s : State) (a : Nat) : (s.setFbBase a).forcedBlank = s.forcedBlank := rfl
@[simp] theorem State.setFbBase_blanked (s : State) (a : Nat) : (s.setFbBase a).blanked = s.blanked := rfl
@[simp] theorem State.setFbBase_fbBase (s : State) (a : Nat) : (s.setFbBase a).fbBase = a := rfl
@[simp] theorem State.setFbBase_busy (s : State) (a : Nat) : (s.setFbBase a).busy = s.busy := rfl
@[simp] theorem State.setFbBase_pc (s : State) (a : Nat) : (s.setFbBase a).pc = s.pc := rfl
@[simp] theorem State.setFbBase_fbLatch (s : State) (a : Nat) : (s.setFbBase a).fbLatch = s.fbLatch := rfl
@[simp] theorem State.setFbBase_oam (s : State) (a : Nat) : (s.setFbBase a).oam = s.oam := rfl
@[simp] theorem State.setFbBase_map0 (s : State) (a : Nat) : (s.setFbBase a).map0 = s.map0 := rfl
@[simp] theorem State.setFbBase_map1 (s : State) (a : Nat) : (s.setFbBase a).map1 = s.map1 := rfl
@[simp] theorem State.setFbBase_bgAtlas (s : State) (a : Nat) : (s.setFbBase a).bgAtlas = s.bgAtlas := rfl
@[simp] theorem State.setFbBase_sprAtlas (s : State) (a : Nat) : (s.setFbBase a).sprAtlas = s.sprAtlas := rfl
@[simp] theorem State.setFbBase_hdma (s : State) (a : Nat) : (s.setFbBase a).hdma = s.hdma := rfl
@[simp] theorem State.setFbBase_fb (s : State) (a : Nat) : (s.setFbBase a).fb = s.fb := rfl
@[simp] theorem State.setFbBase_fbAbsent (s : State) (a : Nat) : (s.setFbBase a).fbAbsent = s.fbAbsent := rfl
@[simp] theorem State.setFbBase_cache0 (s : State) (a : Nat) : (s.setFbBase a).cache0 = s.cache0 := rfl
@[simp] theorem State.setFbBase_cache1 (s : State) (a : Nat) : (s.setFbBase a).cache1 = s.cache1 := rfl
@[simp] theorem State.setFbBase_wmask (s : State) (a : Nat) : (s.setFbBase a).wmask = s.wmask := rfl
@[simp] theorem State.setFbBase_main (s : State) (a : Nat) : (s.setFbBase a).main = s.main := rfl
@[simp] theorem State.setFbBase_sub (s : State) (a : Nat) : (s.setFbBase a).sub = s.sub := rfl
@[simp] theorem State.setFbBase_out (s : State) (a : Nat) : (s.setFbBase a).out = s.out := rfl
@[simp] theorem State.setFbBase_select (s : State) (a : Nat) : (s.setFbBase a).select = s.select := rfl
@[simp] theorem State.setFbBase_host (s : State) (a : Nat) : (s.setFbBase a).host = s.host := rfl
@[simp] theorem State.setFbBase_hostData (s : State) (a : Nat) : (s.setFbBase a).hostData = s.hostData := rfl
@[simp] theorem State.setFbBase_dispatch (s : State) (a : Nat) : (s.setFbBase a).dispatch = s.dispatch := rfl

@[simp] theorem State.setBusy_regs (s : State) (b : BitVec 1) : (s.setBusy b).regs = s.regs := rfl
@[simp] theorem State.setBusy_forcedBlank (s : State) (b : BitVec 1) : (s.setBusy b).forcedBlank = s.forcedBlank := rfl
@[simp] theorem State.setBusy_blanked (s : State) (b : BitVec 1) : (s.setBusy b).blanked = s.blanked := rfl
@[simp] theorem State.setBusy_fbBase (s : State) (b : BitVec 1) : (s.setBusy b).fbBase = s.fbBase := rfl
@[simp] theorem State.setBusy_busy (s : State) (b : BitVec 1) : (s.setBusy b).busy = b := rfl
@[simp] theorem State.setBusy_pc (s : State) (b : BitVec 1) : (s.setBusy b).pc = s.pc := rfl
@[simp] theorem State.setBusy_fbLatch (s : State) (b : BitVec 1) : (s.setBusy b).fbLatch = s.fbLatch := rfl
@[simp] theorem State.setBusy_oam (s : State) (b : BitVec 1) : (s.setBusy b).oam = s.oam := rfl
@[simp] theorem State.setBusy_map0 (s : State) (b : BitVec 1) : (s.setBusy b).map0 = s.map0 := rfl
@[simp] theorem State.setBusy_map1 (s : State) (b : BitVec 1) : (s.setBusy b).map1 = s.map1 := rfl
@[simp] theorem State.setBusy_bgAtlas (s : State) (b : BitVec 1) : (s.setBusy b).bgAtlas = s.bgAtlas := rfl
@[simp] theorem State.setBusy_sprAtlas (s : State) (b : BitVec 1) : (s.setBusy b).sprAtlas = s.sprAtlas := rfl
@[simp] theorem State.setBusy_hdma (s : State) (b : BitVec 1) : (s.setBusy b).hdma = s.hdma := rfl
@[simp] theorem State.setBusy_fb (s : State) (b : BitVec 1) : (s.setBusy b).fb = s.fb := rfl
@[simp] theorem State.setBusy_fbAbsent (s : State) (b : BitVec 1) : (s.setBusy b).fbAbsent = s.fbAbsent := rfl
@[simp] theorem State.setBusy_cache0 (s : State) (b : BitVec 1) : (s.setBusy b).cache0 = s.cache0 := rfl
@[simp] theorem State.setBusy_cache1 (s : State) (b : BitVec 1) : (s.setBusy b).cache1 = s.cache1 := rfl
@[simp] theorem State.setBusy_wmask (s : State) (b : BitVec 1) : (s.setBusy b).wmask = s.wmask := rfl
@[simp] theorem State.setBusy_main (s : State) (b : BitVec 1) : (s.setBusy b).main = s.main := rfl
@[simp] theorem State.setBusy_sub (s : State) (b : BitVec 1) : (s.setBusy b).sub = s.sub := rfl
@[simp] theorem State.setBusy_out (s : State) (b : BitVec 1) : (s.setBusy b).out = s.out := rfl
@[simp] theorem State.setBusy_select (s : State) (b : BitVec 1) : (s.setBusy b).select = s.select := rfl
@[simp] theorem State.setBusy_host (s : State) (b : BitVec 1) : (s.setBusy b).host = s.host := rfl
@[simp] theorem State.setBusy_hostData (s : State) (b : BitVec 1) : (s.setBusy b).hostData = s.hostData := rfl
@[simp] theorem State.setBusy_dispatch (s : State) (b : BitVec 1) : (s.setBusy b).dispatch = s.dispatch := rfl

@[simp] theorem State.setPc_regs (s : State) (p : Pc) : (s.setPc p).regs = s.regs := rfl
@[simp] theorem State.setPc_forcedBlank (s : State) (p : Pc) : (s.setPc p).forcedBlank = s.forcedBlank := rfl
@[simp] theorem State.setPc_blanked (s : State) (p : Pc) : (s.setPc p).blanked = s.blanked := rfl
@[simp] theorem State.setPc_fbBase (s : State) (p : Pc) : (s.setPc p).fbBase = s.fbBase := rfl
@[simp] theorem State.setPc_busy (s : State) (p : Pc) : (s.setPc p).busy = s.busy := rfl
@[simp] theorem State.setPc_pc (s : State) (p : Pc) : (s.setPc p).pc = p := rfl
@[simp] theorem State.setPc_fbLatch (s : State) (p : Pc) : (s.setPc p).fbLatch = s.fbLatch := rfl
@[simp] theorem State.setPc_oam (s : State) (p : Pc) : (s.setPc p).oam = s.oam := rfl
@[simp] theorem State.setPc_map0 (s : State) (p : Pc) : (s.setPc p).map0 = s.map0 := rfl
@[simp] theorem State.setPc_map1 (s : State) (p : Pc) : (s.setPc p).map1 = s.map1 := rfl
@[simp] theorem State.setPc_bgAtlas (s : State) (p : Pc) : (s.setPc p).bgAtlas = s.bgAtlas := rfl
@[simp] theorem State.setPc_sprAtlas (s : State) (p : Pc) : (s.setPc p).sprAtlas = s.sprAtlas := rfl
@[simp] theorem State.setPc_hdma (s : State) (p : Pc) : (s.setPc p).hdma = s.hdma := rfl
@[simp] theorem State.setPc_fb (s : State) (p : Pc) : (s.setPc p).fb = s.fb := rfl
@[simp] theorem State.setPc_fbAbsent (s : State) (p : Pc) : (s.setPc p).fbAbsent = s.fbAbsent := rfl
@[simp] theorem State.setPc_cache0 (s : State) (p : Pc) : (s.setPc p).cache0 = s.cache0 := rfl
@[simp] theorem State.setPc_cache1 (s : State) (p : Pc) : (s.setPc p).cache1 = s.cache1 := rfl
@[simp] theorem State.setPc_wmask (s : State) (p : Pc) : (s.setPc p).wmask = s.wmask := rfl
@[simp] theorem State.setPc_main (s : State) (p : Pc) : (s.setPc p).main = s.main := rfl
@[simp] theorem State.setPc_sub (s : State) (p : Pc) : (s.setPc p).sub = s.sub := rfl
@[simp] theorem State.setPc_out (s : State) (p : Pc) : (s.setPc p).out = s.out := rfl
@[simp] theorem State.setPc_select (s : State) (p : Pc) : (s.setPc p).select = s.select := rfl
@[simp] theorem State.setPc_host (s : State) (p : Pc) : (s.setPc p).host = s.host := rfl
@[simp] theorem State.setPc_hostData (s : State) (p : Pc) : (s.setPc p).hostData = s.hostData := rfl
@[simp] theorem State.setPc_dispatch (s : State) (p : Pc) : (s.setPc p).dispatch = s.dispatch := rfl

@[simp] theorem State.setFbLatch_regs (s : State) (a : Nat) : (s.setFbLatch a).regs = s.regs := rfl
@[simp] theorem State.setFbLatch_forcedBlank (s : State) (a : Nat) : (s.setFbLatch a).forcedBlank = s.forcedBlank := rfl
@[simp] theorem State.setFbLatch_blanked (s : State) (a : Nat) : (s.setFbLatch a).blanked = s.blanked := rfl
@[simp] theorem State.setFbLatch_fbBase (s : State) (a : Nat) : (s.setFbLatch a).fbBase = s.fbBase := rfl
@[simp] theorem State.setFbLatch_busy (s : State) (a : Nat) : (s.setFbLatch a).busy = s.busy := rfl
@[simp] theorem State.setFbLatch_pc (s : State) (a : Nat) : (s.setFbLatch a).pc = s.pc := rfl
@[simp] theorem State.setFbLatch_fbLatch (s : State) (a : Nat) : (s.setFbLatch a).fbLatch = a := rfl
@[simp] theorem State.setFbLatch_oam (s : State) (a : Nat) : (s.setFbLatch a).oam = s.oam := rfl
@[simp] theorem State.setFbLatch_map0 (s : State) (a : Nat) : (s.setFbLatch a).map0 = s.map0 := rfl
@[simp] theorem State.setFbLatch_map1 (s : State) (a : Nat) : (s.setFbLatch a).map1 = s.map1 := rfl
@[simp] theorem State.setFbLatch_bgAtlas (s : State) (a : Nat) : (s.setFbLatch a).bgAtlas = s.bgAtlas := rfl
@[simp] theorem State.setFbLatch_sprAtlas (s : State) (a : Nat) : (s.setFbLatch a).sprAtlas = s.sprAtlas := rfl
@[simp] theorem State.setFbLatch_hdma (s : State) (a : Nat) : (s.setFbLatch a).hdma = s.hdma := rfl
@[simp] theorem State.setFbLatch_fb (s : State) (a : Nat) : (s.setFbLatch a).fb = s.fb := rfl
@[simp] theorem State.setFbLatch_fbAbsent (s : State) (a : Nat) : (s.setFbLatch a).fbAbsent = s.fbAbsent := rfl
@[simp] theorem State.setFbLatch_cache0 (s : State) (a : Nat) : (s.setFbLatch a).cache0 = s.cache0 := rfl
@[simp] theorem State.setFbLatch_cache1 (s : State) (a : Nat) : (s.setFbLatch a).cache1 = s.cache1 := rfl
@[simp] theorem State.setFbLatch_wmask (s : State) (a : Nat) : (s.setFbLatch a).wmask = s.wmask := rfl
@[simp] theorem State.setFbLatch_main (s : State) (a : Nat) : (s.setFbLatch a).main = s.main := rfl
@[simp] theorem State.setFbLatch_sub (s : State) (a : Nat) : (s.setFbLatch a).sub = s.sub := rfl
@[simp] theorem State.setFbLatch_out (s : State) (a : Nat) : (s.setFbLatch a).out = s.out := rfl
@[simp] theorem State.setFbLatch_select (s : State) (a : Nat) : (s.setFbLatch a).select = s.select := rfl
@[simp] theorem State.setFbLatch_host (s : State) (a : Nat) : (s.setFbLatch a).host = s.host := rfl
@[simp] theorem State.setFbLatch_hostData (s : State) (a : Nat) : (s.setFbLatch a).hostData = s.hostData := rfl
@[simp] theorem State.setFbLatch_dispatch (s : State) (a : Nat) : (s.setFbLatch a).dispatch = s.dispatch := rfl

@[simp] theorem State.setOam_regs (s : State) (m : Mem) : (s.setOam m).regs = s.regs := rfl
@[simp] theorem State.setOam_forcedBlank (s : State) (m : Mem) : (s.setOam m).forcedBlank = s.forcedBlank := rfl
@[simp] theorem State.setOam_blanked (s : State) (m : Mem) : (s.setOam m).blanked = s.blanked := rfl
@[simp] theorem State.setOam_fbBase (s : State) (m : Mem) : (s.setOam m).fbBase = s.fbBase := rfl
@[simp] theorem State.setOam_busy (s : State) (m : Mem) : (s.setOam m).busy = s.busy := rfl
@[simp] theorem State.setOam_pc (s : State) (m : Mem) : (s.setOam m).pc = s.pc := rfl
@[simp] theorem State.setOam_fbLatch (s : State) (m : Mem) : (s.setOam m).fbLatch = s.fbLatch := rfl
@[simp] theorem State.setOam_oam (s : State) (m : Mem) : (s.setOam m).oam = m := rfl
@[simp] theorem State.setOam_map0 (s : State) (m : Mem) : (s.setOam m).map0 = s.map0 := rfl
@[simp] theorem State.setOam_map1 (s : State) (m : Mem) : (s.setOam m).map1 = s.map1 := rfl
@[simp] theorem State.setOam_bgAtlas (s : State) (m : Mem) : (s.setOam m).bgAtlas = s.bgAtlas := rfl
@[simp] theorem State.setOam_sprAtlas (s : State) (m : Mem) : (s.setOam m).sprAtlas = s.sprAtlas := rfl
@[simp] theorem State.setOam_hdma (s : State) (m : Mem) : (s.setOam m).hdma = s.hdma := rfl
@[simp] theorem State.setOam_fb (s : State) (m : Mem) : (s.setOam m).fb = s.fb := rfl
@[simp] theorem State.setOam_fbAbsent (s : State) (m : Mem) : (s.setOam m).fbAbsent = s.fbAbsent := rfl
@[simp] theorem State.setOam_cache0 (s : State) (m : Mem) : (s.setOam m).cache0 = s.cache0 := rfl
@[simp] theorem State.setOam_cache1 (s : State) (m : Mem) : (s.setOam m).cache1 = s.cache1 := rfl
@[simp] theorem State.setOam_wmask (s : State) (m : Mem) : (s.setOam m).wmask = s.wmask := rfl
@[simp] theorem State.setOam_main (s : State) (m : Mem) : (s.setOam m).main = s.main := rfl
@[simp] theorem State.setOam_sub (s : State) (m : Mem) : (s.setOam m).sub = s.sub := rfl
@[simp] theorem State.setOam_out (s : State) (m : Mem) : (s.setOam m).out = s.out := rfl
@[simp] theorem State.setOam_select (s : State) (m : Mem) : (s.setOam m).select = s.select := rfl
@[simp] theorem State.setOam_host (s : State) (m : Mem) : (s.setOam m).host = s.host := rfl
@[simp] theorem State.setOam_hostData (s : State) (m : Mem) : (s.setOam m).hostData = s.hostData := rfl
@[simp] theorem State.setOam_dispatch (s : State) (m : Mem) : (s.setOam m).dispatch = s.dispatch := rfl

@[simp] theorem State.setMap0_regs (s : State) (m : Mem) : (s.setMap0 m).regs = s.regs := rfl
@[simp] theorem State.setMap0_forcedBlank (s : State) (m : Mem) : (s.setMap0 m).forcedBlank = s.forcedBlank := rfl
@[simp] theorem State.setMap0_blanked (s : State) (m : Mem) : (s.setMap0 m).blanked = s.blanked := rfl
@[simp] theorem State.setMap0_fbBase (s : State) (m : Mem) : (s.setMap0 m).fbBase = s.fbBase := rfl
@[simp] theorem State.setMap0_busy (s : State) (m : Mem) : (s.setMap0 m).busy = s.busy := rfl
@[simp] theorem State.setMap0_pc (s : State) (m : Mem) : (s.setMap0 m).pc = s.pc := rfl
@[simp] theorem State.setMap0_fbLatch (s : State) (m : Mem) : (s.setMap0 m).fbLatch = s.fbLatch := rfl
@[simp] theorem State.setMap0_oam (s : State) (m : Mem) : (s.setMap0 m).oam = s.oam := rfl
@[simp] theorem State.setMap0_map0 (s : State) (m : Mem) : (s.setMap0 m).map0 = m := rfl
@[simp] theorem State.setMap0_map1 (s : State) (m : Mem) : (s.setMap0 m).map1 = s.map1 := rfl
@[simp] theorem State.setMap0_bgAtlas (s : State) (m : Mem) : (s.setMap0 m).bgAtlas = s.bgAtlas := rfl
@[simp] theorem State.setMap0_sprAtlas (s : State) (m : Mem) : (s.setMap0 m).sprAtlas = s.sprAtlas := rfl
@[simp] theorem State.setMap0_hdma (s : State) (m : Mem) : (s.setMap0 m).hdma = s.hdma := rfl
@[simp] theorem State.setMap0_fb (s : State) (m : Mem) : (s.setMap0 m).fb = s.fb := rfl
@[simp] theorem State.setMap0_fbAbsent (s : State) (m : Mem) : (s.setMap0 m).fbAbsent = s.fbAbsent := rfl
@[simp] theorem State.setMap0_cache0 (s : State) (m : Mem) : (s.setMap0 m).cache0 = s.cache0 := rfl
@[simp] theorem State.setMap0_cache1 (s : State) (m : Mem) : (s.setMap0 m).cache1 = s.cache1 := rfl
@[simp] theorem State.setMap0_wmask (s : State) (m : Mem) : (s.setMap0 m).wmask = s.wmask := rfl
@[simp] theorem State.setMap0_main (s : State) (m : Mem) : (s.setMap0 m).main = s.main := rfl
@[simp] theorem State.setMap0_sub (s : State) (m : Mem) : (s.setMap0 m).sub = s.sub := rfl
@[simp] theorem State.setMap0_out (s : State) (m : Mem) : (s.setMap0 m).out = s.out := rfl
@[simp] theorem State.setMap0_select (s : State) (m : Mem) : (s.setMap0 m).select = s.select := rfl
@[simp] theorem State.setMap0_host (s : State) (m : Mem) : (s.setMap0 m).host = s.host := rfl
@[simp] theorem State.setMap0_hostData (s : State) (m : Mem) : (s.setMap0 m).hostData = s.hostData := rfl
@[simp] theorem State.setMap0_dispatch (s : State) (m : Mem) : (s.setMap0 m).dispatch = s.dispatch := rfl

@[simp] theorem State.setMap1_regs (s : State) (m : Mem) : (s.setMap1 m).regs = s.regs := rfl
@[simp] theorem State.setMap1_forcedBlank (s : State) (m : Mem) : (s.setMap1 m).forcedBlank = s.forcedBlank := rfl
@[simp] theorem State.setMap1_blanked (s : State) (m : Mem) : (s.setMap1 m).blanked = s.blanked := rfl
@[simp] theorem State.setMap1_fbBase (s : State) (m : Mem) : (s.setMap1 m).fbBase = s.fbBase := rfl
@[simp] theorem State.setMap1_busy (s : State) (m : Mem) : (s.setMap1 m).busy = s.busy := rfl
@[simp] theorem State.setMap1_pc (s : State) (m : Mem) : (s.setMap1 m).pc = s.pc := rfl
@[simp] theorem State.setMap1_fbLatch (s : State) (m : Mem) : (s.setMap1 m).fbLatch = s.fbLatch := rfl
@[simp] theorem State.setMap1_oam (s : State) (m : Mem) : (s.setMap1 m).oam = s.oam := rfl
@[simp] theorem State.setMap1_map0 (s : State) (m : Mem) : (s.setMap1 m).map0 = s.map0 := rfl
@[simp] theorem State.setMap1_map1 (s : State) (m : Mem) : (s.setMap1 m).map1 = m := rfl
@[simp] theorem State.setMap1_bgAtlas (s : State) (m : Mem) : (s.setMap1 m).bgAtlas = s.bgAtlas := rfl
@[simp] theorem State.setMap1_sprAtlas (s : State) (m : Mem) : (s.setMap1 m).sprAtlas = s.sprAtlas := rfl
@[simp] theorem State.setMap1_hdma (s : State) (m : Mem) : (s.setMap1 m).hdma = s.hdma := rfl
@[simp] theorem State.setMap1_fb (s : State) (m : Mem) : (s.setMap1 m).fb = s.fb := rfl
@[simp] theorem State.setMap1_fbAbsent (s : State) (m : Mem) : (s.setMap1 m).fbAbsent = s.fbAbsent := rfl
@[simp] theorem State.setMap1_cache0 (s : State) (m : Mem) : (s.setMap1 m).cache0 = s.cache0 := rfl
@[simp] theorem State.setMap1_cache1 (s : State) (m : Mem) : (s.setMap1 m).cache1 = s.cache1 := rfl
@[simp] theorem State.setMap1_wmask (s : State) (m : Mem) : (s.setMap1 m).wmask = s.wmask := rfl
@[simp] theorem State.setMap1_main (s : State) (m : Mem) : (s.setMap1 m).main = s.main := rfl
@[simp] theorem State.setMap1_sub (s : State) (m : Mem) : (s.setMap1 m).sub = s.sub := rfl
@[simp] theorem State.setMap1_out (s : State) (m : Mem) : (s.setMap1 m).out = s.out := rfl
@[simp] theorem State.setMap1_select (s : State) (m : Mem) : (s.setMap1 m).select = s.select := rfl
@[simp] theorem State.setMap1_host (s : State) (m : Mem) : (s.setMap1 m).host = s.host := rfl
@[simp] theorem State.setMap1_hostData (s : State) (m : Mem) : (s.setMap1 m).hostData = s.hostData := rfl
@[simp] theorem State.setMap1_dispatch (s : State) (m : Mem) : (s.setMap1 m).dispatch = s.dispatch := rfl

@[simp] theorem State.setBgAtlas_regs (s : State) (m : Mem) : (s.setBgAtlas m).regs = s.regs := rfl
@[simp] theorem State.setBgAtlas_forcedBlank (s : State) (m : Mem) : (s.setBgAtlas m).forcedBlank = s.forcedBlank := rfl
@[simp] theorem State.setBgAtlas_blanked (s : State) (m : Mem) : (s.setBgAtlas m).blanked = s.blanked := rfl
@[simp] theorem State.setBgAtlas_fbBase (s : State) (m : Mem) : (s.setBgAtlas m).fbBase = s.fbBase := rfl
@[simp] theorem State.setBgAtlas_busy (s : State) (m : Mem) : (s.setBgAtlas m).busy = s.busy := rfl
@[simp] theorem State.setBgAtlas_pc (s : State) (m : Mem) : (s.setBgAtlas m).pc = s.pc := rfl
@[simp] theorem State.setBgAtlas_fbLatch (s : State) (m : Mem) : (s.setBgAtlas m).fbLatch = s.fbLatch := rfl
@[simp] theorem State.setBgAtlas_oam (s : State) (m : Mem) : (s.setBgAtlas m).oam = s.oam := rfl
@[simp] theorem State.setBgAtlas_map0 (s : State) (m : Mem) : (s.setBgAtlas m).map0 = s.map0 := rfl
@[simp] theorem State.setBgAtlas_map1 (s : State) (m : Mem) : (s.setBgAtlas m).map1 = s.map1 := rfl
@[simp] theorem State.setBgAtlas_bgAtlas (s : State) (m : Mem) : (s.setBgAtlas m).bgAtlas = m := rfl
@[simp] theorem State.setBgAtlas_sprAtlas (s : State) (m : Mem) : (s.setBgAtlas m).sprAtlas = s.sprAtlas := rfl
@[simp] theorem State.setBgAtlas_hdma (s : State) (m : Mem) : (s.setBgAtlas m).hdma = s.hdma := rfl
@[simp] theorem State.setBgAtlas_fb (s : State) (m : Mem) : (s.setBgAtlas m).fb = s.fb := rfl
@[simp] theorem State.setBgAtlas_fbAbsent (s : State) (m : Mem) : (s.setBgAtlas m).fbAbsent = s.fbAbsent := rfl
@[simp] theorem State.setBgAtlas_cache0 (s : State) (m : Mem) : (s.setBgAtlas m).cache0 = s.cache0 := rfl
@[simp] theorem State.setBgAtlas_cache1 (s : State) (m : Mem) : (s.setBgAtlas m).cache1 = s.cache1 := rfl
@[simp] theorem State.setBgAtlas_wmask (s : State) (m : Mem) : (s.setBgAtlas m).wmask = s.wmask := rfl
@[simp] theorem State.setBgAtlas_main (s : State) (m : Mem) : (s.setBgAtlas m).main = s.main := rfl
@[simp] theorem State.setBgAtlas_sub (s : State) (m : Mem) : (s.setBgAtlas m).sub = s.sub := rfl
@[simp] theorem State.setBgAtlas_out (s : State) (m : Mem) : (s.setBgAtlas m).out = s.out := rfl
@[simp] theorem State.setBgAtlas_select (s : State) (m : Mem) : (s.setBgAtlas m).select = s.select := rfl
@[simp] theorem State.setBgAtlas_host (s : State) (m : Mem) : (s.setBgAtlas m).host = s.host := rfl
@[simp] theorem State.setBgAtlas_hostData (s : State) (m : Mem) : (s.setBgAtlas m).hostData = s.hostData := rfl
@[simp] theorem State.setBgAtlas_dispatch (s : State) (m : Mem) : (s.setBgAtlas m).dispatch = s.dispatch := rfl

@[simp] theorem State.setSprAtlas_regs (s : State) (m : Mem) : (s.setSprAtlas m).regs = s.regs := rfl
@[simp] theorem State.setSprAtlas_forcedBlank (s : State) (m : Mem) : (s.setSprAtlas m).forcedBlank = s.forcedBlank := rfl
@[simp] theorem State.setSprAtlas_blanked (s : State) (m : Mem) : (s.setSprAtlas m).blanked = s.blanked := rfl
@[simp] theorem State.setSprAtlas_fbBase (s : State) (m : Mem) : (s.setSprAtlas m).fbBase = s.fbBase := rfl
@[simp] theorem State.setSprAtlas_busy (s : State) (m : Mem) : (s.setSprAtlas m).busy = s.busy := rfl
@[simp] theorem State.setSprAtlas_pc (s : State) (m : Mem) : (s.setSprAtlas m).pc = s.pc := rfl
@[simp] theorem State.setSprAtlas_fbLatch (s : State) (m : Mem) : (s.setSprAtlas m).fbLatch = s.fbLatch := rfl
@[simp] theorem State.setSprAtlas_oam (s : State) (m : Mem) : (s.setSprAtlas m).oam = s.oam := rfl
@[simp] theorem State.setSprAtlas_map0 (s : State) (m : Mem) : (s.setSprAtlas m).map0 = s.map0 := rfl
@[simp] theorem State.setSprAtlas_map1 (s : State) (m : Mem) : (s.setSprAtlas m).map1 = s.map1 := rfl
@[simp] theorem State.setSprAtlas_bgAtlas (s : State) (m : Mem) : (s.setSprAtlas m).bgAtlas = s.bgAtlas := rfl
@[simp] theorem State.setSprAtlas_sprAtlas (s : State) (m : Mem) : (s.setSprAtlas m).sprAtlas = m := rfl
@[simp] theorem State.setSprAtlas_hdma (s : State) (m : Mem) : (s.setSprAtlas m).hdma = s.hdma := rfl
@[simp] theorem State.setSprAtlas_fb (s : State) (m : Mem) : (s.setSprAtlas m).fb = s.fb := rfl
@[simp] theorem State.setSprAtlas_fbAbsent (s : State) (m : Mem) : (s.setSprAtlas m).fbAbsent = s.fbAbsent := rfl
@[simp] theorem State.setSprAtlas_cache0 (s : State) (m : Mem) : (s.setSprAtlas m).cache0 = s.cache0 := rfl
@[simp] theorem State.setSprAtlas_cache1 (s : State) (m : Mem) : (s.setSprAtlas m).cache1 = s.cache1 := rfl
@[simp] theorem State.setSprAtlas_wmask (s : State) (m : Mem) : (s.setSprAtlas m).wmask = s.wmask := rfl
@[simp] theorem State.setSprAtlas_main (s : State) (m : Mem) : (s.setSprAtlas m).main = s.main := rfl
@[simp] theorem State.setSprAtlas_sub (s : State) (m : Mem) : (s.setSprAtlas m).sub = s.sub := rfl
@[simp] theorem State.setSprAtlas_out (s : State) (m : Mem) : (s.setSprAtlas m).out = s.out := rfl
@[simp] theorem State.setSprAtlas_select (s : State) (m : Mem) : (s.setSprAtlas m).select = s.select := rfl
@[simp] theorem State.setSprAtlas_host (s : State) (m : Mem) : (s.setSprAtlas m).host = s.host := rfl
@[simp] theorem State.setSprAtlas_hostData (s : State) (m : Mem) : (s.setSprAtlas m).hostData = s.hostData := rfl
@[simp] theorem State.setSprAtlas_dispatch (s : State) (m : Mem) : (s.setSprAtlas m).dispatch = s.dispatch := rfl

@[simp] theorem State.setHdma_regs (s : State) (m : Mem) : (s.setHdma m).regs = s.regs := rfl
@[simp] theorem State.setHdma_forcedBlank (s : State) (m : Mem) : (s.setHdma m).forcedBlank = s.forcedBlank := rfl
@[simp] theorem State.setHdma_blanked (s : State) (m : Mem) : (s.setHdma m).blanked = s.blanked := rfl
@[simp] theorem State.setHdma_fbBase (s : State) (m : Mem) : (s.setHdma m).fbBase = s.fbBase := rfl
@[simp] theorem State.setHdma_busy (s : State) (m : Mem) : (s.setHdma m).busy = s.busy := rfl
@[simp] theorem State.setHdma_pc (s : State) (m : Mem) : (s.setHdma m).pc = s.pc := rfl
@[simp] theorem State.setHdma_fbLatch (s : State) (m : Mem) : (s.setHdma m).fbLatch = s.fbLatch := rfl
@[simp] theorem State.setHdma_oam (s : State) (m : Mem) : (s.setHdma m).oam = s.oam := rfl
@[simp] theorem State.setHdma_map0 (s : State) (m : Mem) : (s.setHdma m).map0 = s.map0 := rfl
@[simp] theorem State.setHdma_map1 (s : State) (m : Mem) : (s.setHdma m).map1 = s.map1 := rfl
@[simp] theorem State.setHdma_bgAtlas (s : State) (m : Mem) : (s.setHdma m).bgAtlas = s.bgAtlas := rfl
@[simp] theorem State.setHdma_sprAtlas (s : State) (m : Mem) : (s.setHdma m).sprAtlas = s.sprAtlas := rfl
@[simp] theorem State.setHdma_hdma (s : State) (m : Mem) : (s.setHdma m).hdma = m := rfl
@[simp] theorem State.setHdma_fb (s : State) (m : Mem) : (s.setHdma m).fb = s.fb := rfl
@[simp] theorem State.setHdma_fbAbsent (s : State) (m : Mem) : (s.setHdma m).fbAbsent = s.fbAbsent := rfl
@[simp] theorem State.setHdma_cache0 (s : State) (m : Mem) : (s.setHdma m).cache0 = s.cache0 := rfl
@[simp] theorem State.setHdma_cache1 (s : State) (m : Mem) : (s.setHdma m).cache1 = s.cache1 := rfl
@[simp] theorem State.setHdma_wmask (s : State) (m : Mem) : (s.setHdma m).wmask = s.wmask := rfl
@[simp] theorem State.setHdma_main (s : State) (m : Mem) : (s.setHdma m).main = s.main := rfl
@[simp] theorem State.setHdma_sub (s : State) (m : Mem) : (s.setHdma m).sub = s.sub := rfl
@[simp] theorem State.setHdma_out (s : State) (m : Mem) : (s.setHdma m).out = s.out := rfl
@[simp] theorem State.setHdma_select (s : State) (m : Mem) : (s.setHdma m).select = s.select := rfl
@[simp] theorem State.setHdma_host (s : State) (m : Mem) : (s.setHdma m).host = s.host := rfl
@[simp] theorem State.setHdma_hostData (s : State) (m : Mem) : (s.setHdma m).hostData = s.hostData := rfl
@[simp] theorem State.setHdma_dispatch (s : State) (m : Mem) : (s.setHdma m).dispatch = s.dispatch := rfl

@[simp] theorem State.setFb_regs (s : State) (m : Mem) : (s.setFb m).regs = s.regs := rfl
@[simp] theorem State.setFb_forcedBlank (s : State) (m : Mem) : (s.setFb m).forcedBlank = s.forcedBlank := rfl
@[simp] theorem State.setFb_blanked (s : State) (m : Mem) : (s.setFb m).blanked = s.blanked := rfl
@[simp] theorem State.setFb_fbBase (s : State) (m : Mem) : (s.setFb m).fbBase = s.fbBase := rfl
@[simp] theorem State.setFb_busy (s : State) (m : Mem) : (s.setFb m).busy = s.busy := rfl
@[simp] theorem State.setFb_pc (s : State) (m : Mem) : (s.setFb m).pc = s.pc := rfl
@[simp] theorem State.setFb_fbLatch (s : State) (m : Mem) : (s.setFb m).fbLatch = s.fbLatch := rfl
@[simp] theorem State.setFb_oam (s : State) (m : Mem) : (s.setFb m).oam = s.oam := rfl
@[simp] theorem State.setFb_map0 (s : State) (m : Mem) : (s.setFb m).map0 = s.map0 := rfl
@[simp] theorem State.setFb_map1 (s : State) (m : Mem) : (s.setFb m).map1 = s.map1 := rfl
@[simp] theorem State.setFb_bgAtlas (s : State) (m : Mem) : (s.setFb m).bgAtlas = s.bgAtlas := rfl
@[simp] theorem State.setFb_sprAtlas (s : State) (m : Mem) : (s.setFb m).sprAtlas = s.sprAtlas := rfl
@[simp] theorem State.setFb_hdma (s : State) (m : Mem) : (s.setFb m).hdma = s.hdma := rfl
@[simp] theorem State.setFb_fb (s : State) (m : Mem) : (s.setFb m).fb = m := rfl
@[simp] theorem State.setFb_fbAbsent (s : State) (m : Mem) : (s.setFb m).fbAbsent = s.fbAbsent := rfl
@[simp] theorem State.setFb_cache0 (s : State) (m : Mem) : (s.setFb m).cache0 = s.cache0 := rfl
@[simp] theorem State.setFb_cache1 (s : State) (m : Mem) : (s.setFb m).cache1 = s.cache1 := rfl
@[simp] theorem State.setFb_wmask (s : State) (m : Mem) : (s.setFb m).wmask = s.wmask := rfl
@[simp] theorem State.setFb_main (s : State) (m : Mem) : (s.setFb m).main = s.main := rfl
@[simp] theorem State.setFb_sub (s : State) (m : Mem) : (s.setFb m).sub = s.sub := rfl
@[simp] theorem State.setFb_out (s : State) (m : Mem) : (s.setFb m).out = s.out := rfl
@[simp] theorem State.setFb_select (s : State) (m : Mem) : (s.setFb m).select = s.select := rfl
@[simp] theorem State.setFb_host (s : State) (m : Mem) : (s.setFb m).host = s.host := rfl
@[simp] theorem State.setFb_hostData (s : State) (m : Mem) : (s.setFb m).hostData = s.hostData := rfl
@[simp] theorem State.setFb_dispatch (s : State) (m : Mem) : (s.setFb m).dispatch = s.dispatch := rfl

@[simp] theorem State.setCache_regs (s : State) (c0 : List Slot) (c1 : List Slot) : (s.setCache c0 c1).regs = s.regs := rfl
@[simp] theorem State.setCache_forcedBlank (s : State) (c0 : List Slot) (c1 : List Slot) : (s.setCache c0 c1).forcedBlank = s.forcedBlank := rfl
@[simp] theorem State.setCache_blanked (s : State) (c0 : List Slot) (c1 : List Slot) : (s.setCache c0 c1).blanked = s.blanked := rfl
@[simp] theorem State.setCache_fbBase (s : State) (c0 : List Slot) (c1 : List Slot) : (s.setCache c0 c1).fbBase = s.fbBase := rfl
@[simp] theorem State.setCache_busy (s : State) (c0 : List Slot) (c1 : List Slot) : (s.setCache c0 c1).busy = s.busy := rfl
@[simp] theorem State.setCache_pc (s : State) (c0 : List Slot) (c1 : List Slot) : (s.setCache c0 c1).pc = s.pc := rfl
@[simp] theorem State.setCache_fbLatch (s : State) (c0 : List Slot) (c1 : List Slot) : (s.setCache c0 c1).fbLatch = s.fbLatch := rfl
@[simp] theorem State.setCache_oam (s : State) (c0 : List Slot) (c1 : List Slot) : (s.setCache c0 c1).oam = s.oam := rfl
@[simp] theorem State.setCache_map0 (s : State) (c0 : List Slot) (c1 : List Slot) : (s.setCache c0 c1).map0 = s.map0 := rfl
@[simp] theorem State.setCache_map1 (s : State) (c0 : List Slot) (c1 : List Slot) : (s.setCache c0 c1).map1 = s.map1 := rfl
@[simp] theorem State.setCache_bgAtlas (s : State) (c0 : List Slot) (c1 : List Slot) : (s.setCache c0 c1).bgAtlas = s.bgAtlas := rfl
@[simp] theorem State.setCache_sprAtlas (s : State) (c0 : List Slot) (c1 : List Slot) : (s.setCache c0 c1).sprAtlas = s.sprAtlas := rfl
@[simp] theorem State.setCache_hdma (s : State) (c0 : List Slot) (c1 : List Slot) : (s.setCache c0 c1).hdma = s.hdma := rfl
@[simp] theorem State.setCache_fb (s : State) (c0 : List Slot) (c1 : List Slot) : (s.setCache c0 c1).fb = s.fb := rfl
@[simp] theorem State.setCache_fbAbsent (s : State) (c0 : List Slot) (c1 : List Slot) : (s.setCache c0 c1).fbAbsent = s.fbAbsent := rfl
@[simp] theorem State.setCache_cache0 (s : State) (c0 : List Slot) (c1 : List Slot) : (s.setCache c0 c1).cache0 = c0 := rfl
@[simp] theorem State.setCache_cache1 (s : State) (c0 : List Slot) (c1 : List Slot) : (s.setCache c0 c1).cache1 = c1 := rfl
@[simp] theorem State.setCache_wmask (s : State) (c0 : List Slot) (c1 : List Slot) : (s.setCache c0 c1).wmask = s.wmask := rfl
@[simp] theorem State.setCache_main (s : State) (c0 : List Slot) (c1 : List Slot) : (s.setCache c0 c1).main = s.main := rfl
@[simp] theorem State.setCache_sub (s : State) (c0 : List Slot) (c1 : List Slot) : (s.setCache c0 c1).sub = s.sub := rfl
@[simp] theorem State.setCache_out (s : State) (c0 : List Slot) (c1 : List Slot) : (s.setCache c0 c1).out = s.out := rfl
@[simp] theorem State.setCache_select (s : State) (c0 : List Slot) (c1 : List Slot) : (s.setCache c0 c1).select = s.select := rfl
@[simp] theorem State.setCache_host (s : State) (c0 : List Slot) (c1 : List Slot) : (s.setCache c0 c1).host = s.host := rfl
@[simp] theorem State.setCache_hostData (s : State) (c0 : List Slot) (c1 : List Slot) : (s.setCache c0 c1).hostData = s.hostData := rfl
@[simp] theorem State.setCache_dispatch (s : State) (c0 : List Slot) (c1 : List Slot) : (s.setCache c0 c1).dispatch = s.dispatch := rfl

@[simp] theorem State.setWmask_regs (s : State) (w : List Byte) : (s.setWmask w).regs = s.regs := rfl
@[simp] theorem State.setWmask_forcedBlank (s : State) (w : List Byte) : (s.setWmask w).forcedBlank = s.forcedBlank := rfl
@[simp] theorem State.setWmask_blanked (s : State) (w : List Byte) : (s.setWmask w).blanked = s.blanked := rfl
@[simp] theorem State.setWmask_fbBase (s : State) (w : List Byte) : (s.setWmask w).fbBase = s.fbBase := rfl
@[simp] theorem State.setWmask_busy (s : State) (w : List Byte) : (s.setWmask w).busy = s.busy := rfl
@[simp] theorem State.setWmask_pc (s : State) (w : List Byte) : (s.setWmask w).pc = s.pc := rfl
@[simp] theorem State.setWmask_fbLatch (s : State) (w : List Byte) : (s.setWmask w).fbLatch = s.fbLatch := rfl
@[simp] theorem State.setWmask_oam (s : State) (w : List Byte) : (s.setWmask w).oam = s.oam := rfl
@[simp] theorem State.setWmask_map0 (s : State) (w : List Byte) : (s.setWmask w).map0 = s.map0 := rfl
@[simp] theorem State.setWmask_map1 (s : State) (w : List Byte) : (s.setWmask w).map1 = s.map1 := rfl
@[simp] theorem State.setWmask_bgAtlas (s : State) (w : List Byte) : (s.setWmask w).bgAtlas = s.bgAtlas := rfl
@[simp] theorem State.setWmask_sprAtlas (s : State) (w : List Byte) : (s.setWmask w).sprAtlas = s.sprAtlas := rfl
@[simp] theorem State.setWmask_hdma (s : State) (w : List Byte) : (s.setWmask w).hdma = s.hdma := rfl
@[simp] theorem State.setWmask_fb (s : State) (w : List Byte) : (s.setWmask w).fb = s.fb := rfl
@[simp] theorem State.setWmask_fbAbsent (s : State) (w : List Byte) : (s.setWmask w).fbAbsent = s.fbAbsent := rfl
@[simp] theorem State.setWmask_cache0 (s : State) (w : List Byte) : (s.setWmask w).cache0 = s.cache0 := rfl
@[simp] theorem State.setWmask_cache1 (s : State) (w : List Byte) : (s.setWmask w).cache1 = s.cache1 := rfl
@[simp] theorem State.setWmask_wmask (s : State) (w : List Byte) : (s.setWmask w).wmask = w := rfl
@[simp] theorem State.setWmask_main (s : State) (w : List Byte) : (s.setWmask w).main = s.main := rfl
@[simp] theorem State.setWmask_sub (s : State) (w : List Byte) : (s.setWmask w).sub = s.sub := rfl
@[simp] theorem State.setWmask_out (s : State) (w : List Byte) : (s.setWmask w).out = s.out := rfl
@[simp] theorem State.setWmask_select (s : State) (w : List Byte) : (s.setWmask w).select = s.select := rfl
@[simp] theorem State.setWmask_host (s : State) (w : List Byte) : (s.setWmask w).host = s.host := rfl
@[simp] theorem State.setWmask_hostData (s : State) (w : List Byte) : (s.setWmask w).hostData = s.hostData := rfl
@[simp] theorem State.setWmask_dispatch (s : State) (w : List Byte) : (s.setWmask w).dispatch = s.dispatch := rfl

@[simp] theorem State.setLines_regs (s : State) (m : List Pixel) (b : List Pixel) : (s.setLines m b).regs = s.regs := rfl
@[simp] theorem State.setLines_forcedBlank (s : State) (m : List Pixel) (b : List Pixel) : (s.setLines m b).forcedBlank = s.forcedBlank := rfl
@[simp] theorem State.setLines_blanked (s : State) (m : List Pixel) (b : List Pixel) : (s.setLines m b).blanked = s.blanked := rfl
@[simp] theorem State.setLines_fbBase (s : State) (m : List Pixel) (b : List Pixel) : (s.setLines m b).fbBase = s.fbBase := rfl
@[simp] theorem State.setLines_busy (s : State) (m : List Pixel) (b : List Pixel) : (s.setLines m b).busy = s.busy := rfl
@[simp] theorem State.setLines_pc (s : State) (m : List Pixel) (b : List Pixel) : (s.setLines m b).pc = s.pc := rfl
@[simp] theorem State.setLines_fbLatch (s : State) (m : List Pixel) (b : List Pixel) : (s.setLines m b).fbLatch = s.fbLatch := rfl
@[simp] theorem State.setLines_oam (s : State) (m : List Pixel) (b : List Pixel) : (s.setLines m b).oam = s.oam := rfl
@[simp] theorem State.setLines_map0 (s : State) (m : List Pixel) (b : List Pixel) : (s.setLines m b).map0 = s.map0 := rfl
@[simp] theorem State.setLines_map1 (s : State) (m : List Pixel) (b : List Pixel) : (s.setLines m b).map1 = s.map1 := rfl
@[simp] theorem State.setLines_bgAtlas (s : State) (m : List Pixel) (b : List Pixel) : (s.setLines m b).bgAtlas = s.bgAtlas := rfl
@[simp] theorem State.setLines_sprAtlas (s : State) (m : List Pixel) (b : List Pixel) : (s.setLines m b).sprAtlas = s.sprAtlas := rfl
@[simp] theorem State.setLines_hdma (s : State) (m : List Pixel) (b : List Pixel) : (s.setLines m b).hdma = s.hdma := rfl
@[simp] theorem State.setLines_fb (s : State) (m : List Pixel) (b : List Pixel) : (s.setLines m b).fb = s.fb := rfl
@[simp] theorem State.setLines_fbAbsent (s : State) (m : List Pixel) (b : List Pixel) : (s.setLines m b).fbAbsent = s.fbAbsent := rfl
@[simp] theorem State.setLines_cache0 (s : State) (m : List Pixel) (b : List Pixel) : (s.setLines m b).cache0 = s.cache0 := rfl
@[simp] theorem State.setLines_cache1 (s : State) (m : List Pixel) (b : List Pixel) : (s.setLines m b).cache1 = s.cache1 := rfl
@[simp] theorem State.setLines_wmask (s : State) (m : List Pixel) (b : List Pixel) : (s.setLines m b).wmask = s.wmask := rfl
@[simp] theorem State.setLines_main (s : State) (m : List Pixel) (b : List Pixel) : (s.setLines m b).main = m := rfl
@[simp] theorem State.setLines_sub (s : State) (m : List Pixel) (b : List Pixel) : (s.setLines m b).sub = b := rfl
@[simp] theorem State.setLines_out (s : State) (m : List Pixel) (b : List Pixel) : (s.setLines m b).out = s.out := rfl
@[simp] theorem State.setLines_select (s : State) (m : List Pixel) (b : List Pixel) : (s.setLines m b).select = s.select := rfl
@[simp] theorem State.setLines_host (s : State) (m : List Pixel) (b : List Pixel) : (s.setLines m b).host = s.host := rfl
@[simp] theorem State.setLines_hostData (s : State) (m : List Pixel) (b : List Pixel) : (s.setLines m b).hostData = s.hostData := rfl
@[simp] theorem State.setLines_dispatch (s : State) (m : List Pixel) (b : List Pixel) : (s.setLines m b).dispatch = s.dispatch := rfl

@[simp] theorem State.setOut_regs (s : State) (o : List Pixel) : (s.setOut o).regs = s.regs := rfl
@[simp] theorem State.setOut_forcedBlank (s : State) (o : List Pixel) : (s.setOut o).forcedBlank = s.forcedBlank := rfl
@[simp] theorem State.setOut_blanked (s : State) (o : List Pixel) : (s.setOut o).blanked = s.blanked := rfl
@[simp] theorem State.setOut_fbBase (s : State) (o : List Pixel) : (s.setOut o).fbBase = s.fbBase := rfl
@[simp] theorem State.setOut_busy (s : State) (o : List Pixel) : (s.setOut o).busy = s.busy := rfl
@[simp] theorem State.setOut_pc (s : State) (o : List Pixel) : (s.setOut o).pc = s.pc := rfl
@[simp] theorem State.setOut_fbLatch (s : State) (o : List Pixel) : (s.setOut o).fbLatch = s.fbLatch := rfl
@[simp] theorem State.setOut_oam (s : State) (o : List Pixel) : (s.setOut o).oam = s.oam := rfl
@[simp] theorem State.setOut_map0 (s : State) (o : List Pixel) : (s.setOut o).map0 = s.map0 := rfl
@[simp] theorem State.setOut_map1 (s : State) (o : List Pixel) : (s.setOut o).map1 = s.map1 := rfl
@[simp] theorem State.setOut_bgAtlas (s : State) (o : List Pixel) : (s.setOut o).bgAtlas = s.bgAtlas := rfl
@[simp] theorem State.setOut_sprAtlas (s : State) (o : List Pixel) : (s.setOut o).sprAtlas = s.sprAtlas := rfl
@[simp] theorem State.setOut_hdma (s : State) (o : List Pixel) : (s.setOut o).hdma = s.hdma := rfl
@[simp] theorem State.setOut_fb (s : State) (o : List Pixel) : (s.setOut o).fb = s.fb := rfl
@[simp] theorem State.setOut_fbAbsent (s : State) (o : List Pixel) : (s.setOut o).fbAbsent = s.fbAbsent := rfl
@[simp] theorem State.setOut_cache0 (s : State) (o : List Pixel) : (s.setOut o).cache0 = s.cache0 := rfl
@[simp] theorem State.setOut_cache1 (s : State) (o : List Pixel) : (s.setOut o).cache1 = s.cache1 := rfl
@[simp] theorem State.setOut_wmask (s : State) (o : List Pixel) : (s.setOut o).wmask = s.wmask := rfl
@[simp] theorem State.setOut_main (s : State) (o : List Pixel) : (s.setOut o).main = s.main := rfl
@[simp] theorem State.setOut_sub (s : State) (o : List Pixel) : (s.setOut o).sub = s.sub := rfl
@[simp] theorem State.setOut_out (s : State) (o : List Pixel) : (s.setOut o).out = o := rfl
@[simp] theorem State.setOut_select (s : State) (o : List Pixel) : (s.setOut o).select = s.select := rfl
@[simp] theorem State.setOut_host (s : State) (o : List Pixel) : (s.setOut o).host = s.host := rfl
@[simp] theorem State.setOut_hostData (s : State) (o : List Pixel) : (s.setOut o).hostData = s.hostData := rfl
@[simp] theorem State.setOut_dispatch (s : State) (o : List Pixel) : (s.setOut o).dispatch = s.dispatch := rfl

@[simp] theorem State.setSelect_regs (s : State) (l : List Bool) : (s.setSelect l).regs = s.regs := rfl
@[simp] theorem State.setSelect_forcedBlank (s : State) (l : List Bool) : (s.setSelect l).forcedBlank = s.forcedBlank := rfl
@[simp] theorem State.setSelect_blanked (s : State) (l : List Bool) : (s.setSelect l).blanked = s.blanked := rfl
@[simp] theorem State.setSelect_fbBase (s : State) (l : List Bool) : (s.setSelect l).fbBase = s.fbBase := rfl
@[simp] theorem State.setSelect_busy (s : State) (l : List Bool) : (s.setSelect l).busy = s.busy := rfl
@[simp] theorem State.setSelect_pc (s : State) (l : List Bool) : (s.setSelect l).pc = s.pc := rfl
@[simp] theorem State.setSelect_fbLatch (s : State) (l : List Bool) : (s.setSelect l).fbLatch = s.fbLatch := rfl
@[simp] theorem State.setSelect_oam (s : State) (l : List Bool) : (s.setSelect l).oam = s.oam := rfl
@[simp] theorem State.setSelect_map0 (s : State) (l : List Bool) : (s.setSelect l).map0 = s.map0 := rfl
@[simp] theorem State.setSelect_map1 (s : State) (l : List Bool) : (s.setSelect l).map1 = s.map1 := rfl
@[simp] theorem State.setSelect_bgAtlas (s : State) (l : List Bool) : (s.setSelect l).bgAtlas = s.bgAtlas := rfl
@[simp] theorem State.setSelect_sprAtlas (s : State) (l : List Bool) : (s.setSelect l).sprAtlas = s.sprAtlas := rfl
@[simp] theorem State.setSelect_hdma (s : State) (l : List Bool) : (s.setSelect l).hdma = s.hdma := rfl
@[simp] theorem State.setSelect_fb (s : State) (l : List Bool) : (s.setSelect l).fb = s.fb := rfl
@[simp] theorem State.setSelect_fbAbsent (s : State) (l : List Bool) : (s.setSelect l).fbAbsent = s.fbAbsent := rfl
@[simp] theorem State.setSelect_cache0 (s : State) (l : List Bool) : (s.setSelect l).cache0 = s.cache0 := rfl
@[simp] theorem State.setSelect_cache1 (s : State) (l : List Bool) : (s.setSelect l).cache1 = s.cache1 := rfl
@[simp] theorem State.setSelect_wmask (s : State) (l : List Bool) : (s.setSelect l).wmask = s.wmask := rfl
@[simp] theorem State.setSelect_main (s : State) (l : List Bool) : (s.setSelect l).main = s.main := rfl
@[simp] theorem State.setSelect_sub (s : State) (l : List Bool) : (s.setSelect l).sub = s.sub := rfl
@[simp] theorem State.setSelect_out (s : State) (l : List Bool) : (s.setSelect l).out = s.out := rfl
@[simp] theorem State.setSelect_select (s : State) (l : List Bool) : (s.setSelect l).select = l := rfl
@[simp] theorem State.setSelect_host (s : State) (l : List Bool) : (s.setSelect l).host = s.host := rfl
@[simp] theorem State.setSelect_hostData (s : State) (l : List Bool) : (s.setSelect l).hostData = s.hostData := rfl
@[simp] theorem State.setSelect_dispatch (s : State) (l : List Bool) : (s.setSelect l).dispatch = s.dispatch := rfl

@[simp] theorem State.setHost_regs (s : State) (h : List HostAccess) : (s.setHost h).regs = s.regs := rfl
@[simp] theorem State.setHost_forcedBlank (s : State) (h : List HostAccess) : (s.setHost h).forcedBlank = s.forcedBlank := rfl
@[simp] theorem State.setHost_blanked (s : State) (h : List HostAccess) : (s.setHost h).blanked = s.blanked := rfl
@[simp] theorem State.setHost_fbBase (s : State) (h : List HostAccess) : (s.setHost h).fbBase = s.fbBase := rfl
@[simp] theorem State.setHost_busy (s : State) (h : List HostAccess) : (s.setHost h).busy = s.busy := rfl
@[simp] theorem State.setHost_pc (s : State) (h : List HostAccess) : (s.setHost h).pc = s.pc := rfl
@[simp] theorem State.setHost_fbLatch (s : State) (h : List HostAccess) : (s.setHost h).fbLatch = s.fbLatch := rfl
@[simp] theorem State.setHost_oam (s : State) (h : List HostAccess) : (s.setHost h).oam = s.oam := rfl
@[simp] theorem State.setHost_map0 (s : State) (h : List HostAccess) : (s.setHost h).map0 = s.map0 := rfl
@[simp] theorem State.setHost_map1 (s : State) (h : List HostAccess) : (s.setHost h).map1 = s.map1 := rfl
@[simp] theorem State.setHost_bgAtlas (s : State) (h : List HostAccess) : (s.setHost h).bgAtlas = s.bgAtlas := rfl
@[simp] theorem State.setHost_sprAtlas (s : State) (h : List HostAccess) : (s.setHost h).sprAtlas = s.sprAtlas := rfl
@[simp] theorem State.setHost_hdma (s : State) (h : List HostAccess) : (s.setHost h).hdma = s.hdma := rfl
@[simp] theorem State.setHost_fb (s : State) (h : List HostAccess) : (s.setHost h).fb = s.fb := rfl
@[simp] theorem State.setHost_fbAbsent (s : State) (h : List HostAccess) : (s.setHost h).fbAbsent = s.fbAbsent := rfl
@[simp] theorem State.setHost_cache0 (s : State) (h : List HostAccess) : (s.setHost h).cache0 = s.cache0 := rfl
@[simp] theorem State.setHost_cache1 (s : State) (h : List HostAccess) : (s.setHost h).cache1 = s.cache1 := rfl
@[simp] theorem State.setHost_wmask (s : State) (h : List HostAccess) : (s.setHost h).wmask = s.wmask := rfl
@[simp] theorem State.setHost_main (s : State) (h : List HostAccess) : (s.setHost h).main = s.main := rfl
@[simp] theorem State.setHost_sub (s : State) (h : List HostAccess) : (s.setHost h).sub = s.sub := rfl
@[simp] theorem State.setHost_out (s : State) (h : List HostAccess) : (s.setHost h).out = s.out := rfl
@[simp] theorem State.setHost_select (s : State) (h : List HostAccess) : (s.setHost h).select = s.select := rfl
@[simp] theorem State.setHost_host (s : State) (h : List HostAccess) : (s.setHost h).host = h := rfl
@[simp] theorem State.setHost_hostData (s : State) (h : List HostAccess) : (s.setHost h).hostData = s.hostData := rfl
@[simp] theorem State.setHost_dispatch (s : State) (h : List HostAccess) : (s.setHost h).dispatch = s.dispatch := rfl

@[simp] theorem State.setHostData_regs (s : State) (d : Entry) : (s.setHostData d).regs = s.regs := rfl
@[simp] theorem State.setHostData_forcedBlank (s : State) (d : Entry) : (s.setHostData d).forcedBlank = s.forcedBlank := rfl
@[simp] theorem State.setHostData_blanked (s : State) (d : Entry) : (s.setHostData d).blanked = s.blanked := rfl
@[simp] theorem State.setHostData_fbBase (s : State) (d : Entry) : (s.setHostData d).fbBase = s.fbBase := rfl
@[simp] theorem State.setHostData_busy (s : State) (d : Entry) : (s.setHostData d).busy = s.busy := rfl
@[simp] theorem State.setHostData_pc (s : State) (d : Entry) : (s.setHostData d).pc = s.pc := rfl
@[simp] theorem State.setHostData_fbLatch (s : State) (d : Entry) : (s.setHostData d).fbLatch = s.fbLatch := rfl
@[simp] theorem State.setHostData_oam (s : State) (d : Entry) : (s.setHostData d).oam = s.oam := rfl
@[simp] theorem State.setHostData_map0 (s : State) (d : Entry) : (s.setHostData d).map0 = s.map0 := rfl
@[simp] theorem State.setHostData_map1 (s : State) (d : Entry) : (s.setHostData d).map1 = s.map1 := rfl
@[simp] theorem State.setHostData_bgAtlas (s : State) (d : Entry) : (s.setHostData d).bgAtlas = s.bgAtlas := rfl
@[simp] theorem State.setHostData_sprAtlas (s : State) (d : Entry) : (s.setHostData d).sprAtlas = s.sprAtlas := rfl
@[simp] theorem State.setHostData_hdma (s : State) (d : Entry) : (s.setHostData d).hdma = s.hdma := rfl
@[simp] theorem State.setHostData_fb (s : State) (d : Entry) : (s.setHostData d).fb = s.fb := rfl
@[simp] theorem State.setHostData_fbAbsent (s : State) (d : Entry) : (s.setHostData d).fbAbsent = s.fbAbsent := rfl
@[simp] theorem State.setHostData_cache0 (s : State) (d : Entry) : (s.setHostData d).cache0 = s.cache0 := rfl
@[simp] theorem State.setHostData_cache1 (s : State) (d : Entry) : (s.setHostData d).cache1 = s.cache1 := rfl
@[simp] theorem State.setHostData_wmask (s : State) (d : Entry) : (s.setHostData d).wmask = s.wmask := rfl
@[simp] theorem State.setHostData_main (s : State) (d : Entry) : (s.setHostData d).main = s.main := rfl
@[simp] theorem State.setHostData_sub (s : State) (d : Entry) : (s.setHostData d).sub = s.sub := rfl
@[simp] theorem State.setHostData_out (s : State) (d : Entry) : (s.setHostData d).out = s.out := rfl
@[simp] theorem State.setHostData_select (s : State) (d : Entry) : (s.setHostData d).select = s.select := rfl
@[simp] theorem State.setHostData_host (s : State) (d : Entry) : (s.setHostData d).host = s.host := rfl
@[simp] theorem State.setHostData_hostData (s : State) (d : Entry) : (s.setHostData d).hostData = d := rfl
@[simp] theorem State.setHostData_dispatch (s : State) (d : Entry) : (s.setHostData d).dispatch = s.dispatch := rfl

@[simp] theorem State.setDispatch_regs (s : State) (c : Option Code) : (s.setDispatch c).regs = s.regs := rfl
@[simp] theorem State.setDispatch_forcedBlank (s : State) (c : Option Code) : (s.setDispatch c).forcedBlank = s.forcedBlank := rfl
@[simp] theorem State.setDispatch_blanked (s : State) (c : Option Code) : (s.setDispatch c).blanked = s.blanked := rfl
@[simp] theorem State.setDispatch_fbBase (s : State) (c : Option Code) : (s.setDispatch c).fbBase = s.fbBase := rfl
@[simp] theorem State.setDispatch_busy (s : State) (c : Option Code) : (s.setDispatch c).busy = s.busy := rfl
@[simp] theorem State.setDispatch_pc (s : State) (c : Option Code) : (s.setDispatch c).pc = s.pc := rfl
@[simp] theorem State.setDispatch_fbLatch (s : State) (c : Option Code) : (s.setDispatch c).fbLatch = s.fbLatch := rfl
@[simp] theorem State.setDispatch_oam (s : State) (c : Option Code) : (s.setDispatch c).oam = s.oam := rfl
@[simp] theorem State.setDispatch_map0 (s : State) (c : Option Code) : (s.setDispatch c).map0 = s.map0 := rfl
@[simp] theorem State.setDispatch_map1 (s : State) (c : Option Code) : (s.setDispatch c).map1 = s.map1 := rfl
@[simp] theorem State.setDispatch_bgAtlas (s : State) (c : Option Code) : (s.setDispatch c).bgAtlas = s.bgAtlas := rfl
@[simp] theorem State.setDispatch_sprAtlas (s : State) (c : Option Code) : (s.setDispatch c).sprAtlas = s.sprAtlas := rfl
@[simp] theorem State.setDispatch_hdma (s : State) (c : Option Code) : (s.setDispatch c).hdma = s.hdma := rfl
@[simp] theorem State.setDispatch_fb (s : State) (c : Option Code) : (s.setDispatch c).fb = s.fb := rfl
@[simp] theorem State.setDispatch_fbAbsent (s : State) (c : Option Code) : (s.setDispatch c).fbAbsent = s.fbAbsent := rfl
@[simp] theorem State.setDispatch_cache0 (s : State) (c : Option Code) : (s.setDispatch c).cache0 = s.cache0 := rfl
@[simp] theorem State.setDispatch_cache1 (s : State) (c : Option Code) : (s.setDispatch c).cache1 = s.cache1 := rfl
@[simp] theorem State.setDispatch_wmask (s : State) (c : Option Code) : (s.setDispatch c).wmask = s.wmask := rfl
@[simp] theorem State.setDispatch_main (s : State) (c : Option Code) : (s.setDispatch c).main = s.main := rfl
@[simp] theorem State.setDispatch_sub (s : State) (c : Option Code) : (s.setDispatch c).sub = s.sub := rfl
@[simp] theorem State.setDispatch_out (s : State) (c : Option Code) : (s.setDispatch c).out = s.out := rfl
@[simp] theorem State.setDispatch_select (s : State) (c : Option Code) : (s.setDispatch c).select = s.select := rfl
@[simp] theorem State.setDispatch_host (s : State) (c : Option Code) : (s.setDispatch c).host = s.host := rfl
@[simp] theorem State.setDispatch_hostData (s : State) (c : Option Code) : (s.setDispatch c).hostData = s.hostData := rfl
@[simp] theorem State.setDispatch_dispatch (s : State) (c : Option Code) : (s.setDispatch c).dispatch = c := rfl

end Sys2Proof.Machine
end

