-- ==== Sys2Proof/Laws/Dispatch.lean ====
section
/-!
SUPPORT. What running a word does, once for each format: the decoder's tables and the dispatcher's arms together. Later proofs
about a step cite these and look at no table and no arm.
-/

namespace Sys2Proof.Machine

/-- The 64 scanline microcodes by their key. -/
theorem exec_scanTable (s : State) : ∀ k : Fin 64,
    exec (scanTable.getD k.val .scan00) s = .next (composeRow (BitVec.ofFin k) s) := by
  intro k; fin_cases k <;> rfl

/-- A main key runs `ComposeRow` with its low six bits (`43_composition.md` R221). -/
theorem runCode_mainKey (b : Byte) (s : State) : runCode (.mainKey b) s = .next (composeRow (mainKeyOf b) s) :=
  exec_scanTable s (mainKeyOf b).toFin

/-- The 16 sprite-blit microcodes by their key. -/
theorem exec_sprTable (i : Byte) (s : State) : ∀ q : Fin 16,
    exec (sprTable.getD q.val .sprblit0 i) s = .next (sprBlitKey (BitVec.ofFin q) i s) := by
  intro q; fin_cases q <;> rfl

/-- A sprite's flags byte runs the blit of its key bits (`44_sprite_blit.md` R250). -/
theorem runCode_sprKey (i b : Byte) (s : State) : runCode (.sprKey i b) s = .next (sprBlitKey (sprKeyOf b) i s) :=
  exec_sprTable i s (sprKeyOf b).toFin

set_option maxRecDepth 4000 in
/-- The 256 colour-math microcodes in the order of their keys. -/
theorem exec_cmathTable_map (s : State) :
    cmathTable.map (fun i => exec i s) = (List.range 256).map fun f => .next (cmathRow (BitVec.ofNat 8 f) s) := by
  rfl

/-- The 256 colour-math microcodes by their key. -/
theorem exec_cmathTable (s : State) (f : Nat) (hf : f < 256) :
    exec (cmathTable.getD f .cmath00) s = .next (cmathRow (BitVec.ofNat 8 f) s) := by
  have h := congrArg (fun l => l[f]?) (exec_cmathTable_map s)
  simp only [List.getElem?_map, List.getElem?_range hf, Option.map_some] at h
  rw [List.getD_eq_getElem?_getD]
  cases hc : cmathTable[f]? with
  | none => simp [hc] at h
  | some i => simpa [hc] using h

/-- A colour-math key runs `CMath` of itself (`45_color_math.md` R270). -/
theorem runCode_cmathKey (f : Byte) (s : State) : runCode (.cmathKey f) s = .next (cmathRow f s) :=
  (exec_cmathTable s f.toNat f.isLt).trans (by simp)

/-- The 16 window nibble functions by their nibble. -/
theorem exec_winTable (s : State) : ∀ n : Fin 16,
    exec (winTable.getD n.val .winnib0) s = .next (winLookup (BitVec.ofFin n) s) := by
  intro n; fin_cases n <;> rfl

/-- A window nibble looks itself up over the row (`42_window_mask.md` R205). -/
theorem runCode_winNib (b : Byte) (s : State) : runCode (.winNib b) s = .next (winLookup (winNibOf b) s) :=
  exec_winTable s (winNibOf b).toFin

/-- The 21 tags that are commands. -/
theorem exec_hdmaInstr_command (tag value : Half) (s : State) (h : tag.toNat < 21) :
    exec (hdmaInstr tag value) s = .next (hdmaExec s.pc.tbl.toNat (entryOf tag value) s) := by
  obtain ⟨n, hn⟩ : ∃ n, tag.toNat = n := ⟨_, rfl⟩
  obtain rfl : tag = BitVec.ofNat 16 n := by rw [← hn]; simp
  have hn : n < 21 := by omega
  unfold hdmaExec
  rw [entryTag_entryOf, entryValue_entryOf]
  interval_cases n <;> rfl

/-- A choice between two instructions that change nothing changes nothing. -/
theorem exec_ite_unchanged (c : Prop) [Decidable c] (a b : Instr) (s : State) (ha : exec a s = .next s)
    (hb : exec b s = .next s) : exec (if c then a else b) s = .next s := by
  by_cases hc : c
  · rw [if_pos hc]; exact ha
  · rw [if_neg hc]; exact hb

/-- A reserved tag changes nothing (`40_hdma.md` R163). -/
theorem exec_hdmaInstr_reserved (tag value : Half) (s : State) (h : 21 ≤ tag.toNat) :
    exec (hdmaInstr tag value) s = .next s := by
  unfold hdmaInstr
  split
  case h_22 =>
    repeat (apply exec_ite_unchanged; · rfl)
    rfl
  all_goals omega

/-- An HDMA entry runs `HdmaExec` for the table `pc` names (`40_hdma.md` R141). -/
theorem runCode_hdma (e : Entry) (s : State) : runCode (.hdma e) s = .next (hdmaExec s.pc.tbl.toNat e s) := by
  have he : runCode (.hdma e) s = exec (hdmaInstr (entryTag e) (entryValue e)) s := rfl
  rcases Nat.lt_or_ge (entryTag e).toNat 21 with h | h
  · rw [he, exec_hdmaInstr_command _ _ _ h, entryOf_halves]
  · rw [he, exec_hdmaInstr_reserved _ _ _ h, hdmaExec, if_neg (by omega), if_neg (by omega)]

end Sys2Proof.Machine
end

