-- ==== Sys2Proof/Laws/Memory.lean ====
section
/-!
SUPPORT. Memory in its byte view: a read after a write, a write leaves every other place alone, and every memory operation
keeps the canonical form and the space's bounds.
-/

namespace Sys2Proof.Machine

/-! ### One byte -/

theorem Mem.get?_put (m : Mem) (a x : Nat) (b : Byte) :
    Mem.get? (Mem.put m a b) x = if x = a then some b else Mem.get? m x := by
  induction m with
  | nil => simp [Mem.put, Mem.get?]
  | cons h t ih =>
    obtain ⟨k, v⟩ := h
    simp only [Mem.put]
    split_ifs with h1 h2 h3 h4 <;> simp_all [Mem.get?]

theorem Mem.get?_eq_none_of_lt {m : Mem} {a : Nat} (h : ∀ x ∈ m, a < x.1) : Mem.get? m a = none := by
  induction m with
  | nil => rfl
  | cons c t ih =>
    have hc : a < c.1 := h c (by simp)
    simp only [Mem.get?]
    rw [if_neg (by omega)]
    exact ih fun x hx => h x (by simp [hx])

theorem Mem.get?_erase {m : Mem} (hm : m.Pairwise fun x y => x.1 < y.1) (a x : Nat) :
    Mem.get? (Mem.erase m a) x = if x = a then none else Mem.get? m x := by
  induction m with
  | nil => simp [Mem.erase, Mem.get?]
  | cons h t ih =>
    obtain ⟨k, v⟩ := h
    rw [List.pairwise_cons] at hm
    simp only [Mem.erase]
    by_cases hak : a = k
    · subst hak
      by_cases hx : x = a
      · subst hx; simpa using Mem.get?_eq_none_of_lt hm.1
      · simp [Mem.get?, hx]
    · simp only [hak, if_false, Mem.get?, ih hm.2]
      split_ifs <;> first | rfl | omega

/-- A space in canonical form answers a written byte at its address and every other address as before, unlisted
addresses reading as the default. -/
theorem Mem.get?_write {d : Option Byte} {m : Mem} (hm : m.Pairwise fun x y => x.1 < y.1) (a x : Nat) (b : Byte) :
    (Mem.get? (Mem.write d m a b) x).or d = if x = a then some b else (Mem.get? m x).or d := by
  unfold Mem.write
  split_ifs with h1 h2 h2
  · simp [Mem.get?_erase hm, h2, h1]
  · simp [Mem.get?_erase hm, h2]
  · simp [Mem.get?_put, h2]
  · simp [Mem.get?_put, h2]

/-- In a space without a default a written byte is listed; no canonical form is needed. -/
theorem Mem.get?_write_noDefault (m : Mem) (a x : Nat) (b : Byte) :
    Mem.get? (Mem.write noDefault m a b) x = if x = a then some b else Mem.get? m x := by
  simp [Mem.write, noDefault, Mem.get?_put]

/-! ### The canonical form -/

theorem Mem.mem_put {m : Mem} {a : Nat} {b : Byte} {x : Host.Cell} (h : x ∈ Mem.put m a b) : x = (a, b) ∨ x ∈ m := by
  induction m with
  | nil => simpa [Mem.put] using h
  | cons c t ih =>
    obtain ⟨k, v⟩ := c
    simp only [Mem.put] at h
    split_ifs at h <;> simp at h ⊢ <;> tauto

theorem Mem.mem_erase {m : Mem} {a : Nat} {x : Host.Cell} (h : x ∈ Mem.erase m a) : x ∈ m := by
  induction m with
  | nil => exact absurd h (by simp [Mem.erase])
  | cons c t ih =>
    obtain ⟨k, v⟩ := c
    simp only [Mem.erase] at h
    split_ifs at h <;> simp at h ⊢ <;> tauto

theorem Mem.put_ascending {m : Mem} (hm : m.Pairwise fun x y => x.1 < y.1) (a : Nat) (b : Byte) :
    (Mem.put m a b).Pairwise fun x y => x.1 < y.1 := by
  induction m with
  | nil => simp [Mem.put]
  | cons c t ih =>
    obtain ⟨k, v⟩ := c
    have hm' := List.pairwise_cons.mp hm
    simp only [Mem.put]
    split_ifs with h1 h2
    · refine List.pairwise_cons.mpr ⟨fun x hx => ?_, hm⟩
      rcases List.mem_cons.mp hx with rfl | hx
      · exact h1
      · exact h1.trans (hm'.1 x hx)
    · subst h2
      exact List.pairwise_cons.mpr ⟨hm'.1, hm'.2⟩
    · refine List.pairwise_cons.mpr ⟨fun x hx => ?_, ih hm'.2⟩
      rcases Mem.mem_put hx with rfl | hx
      · show k < a; omega
      · exact hm'.1 x hx

theorem Mem.erase_ascending {m : Mem} (hm : m.Pairwise fun x y => x.1 < y.1) (a : Nat) :
    (Mem.erase m a).Pairwise fun x y => x.1 < y.1 := by
  induction m with
  | nil => simp [Mem.erase]
  | cons c t ih =>
    obtain ⟨k, v⟩ := c
    have hm' := List.pairwise_cons.mp hm
    simp only [Mem.erase]
    split_ifs with h1
    · exact hm'.2
    · exact List.pairwise_cons.mpr ⟨fun x hx => hm'.1 x (Mem.mem_erase hx), ih hm'.2⟩

/-- Writing a byte keeps the canonical form. -/
theorem Mem.write_wf {d : Option Byte} {m : Mem} (hm : Mem.wf d m) (a : Nat) (b : Byte) : Mem.wf d (Mem.write d m a b) := by
  unfold Mem.write
  split_ifs with h
  · exact ⟨Mem.erase_ascending hm.1 a, fun x hx => hm.2 x (Mem.mem_erase hx)⟩
  · refine ⟨Mem.put_ascending hm.1 a b, fun x hx => ?_⟩
    rcases Mem.mem_put hx with rfl | hx
    · exact h
    · exact hm.2 x hx

/-- Writing a byte inside a space keeps the space's bounds. -/
theorem Mem.write_below {d : Option Byte} {n : Nat} {m : Mem} (hm : Mem.below n m) {a : Nat} (ha : a < n) (b : Byte) :
    Mem.below n (Mem.write d m a b) := by
  unfold Mem.write
  intro x hx
  split_ifs at hx
  · exact hm x (Mem.mem_erase hx)
  · rcases Mem.mem_put hx with rfl | hx
    · exact ha
    · exact hm x hx

/-- Writing a 16-bit entry keeps the canonical form. -/
theorem Mem.setHalf_wf {d : Option Byte} {m : Mem} (hm : Mem.wf d m) (i : Nat) (v : Half) : Mem.wf d (Mem.setHalf d m i v) :=
  Mem.write_wf (Mem.write_wf hm _ _) _ _

theorem Mem.setHalf_below {d : Option Byte} {n : Nat} {m : Mem} (hm : Mem.below (2 * n) m) {i : Nat} (hi : i < n) (v : Half) :
    Mem.below (2 * n) (Mem.setHalf d m i v) :=
  Mem.write_below (Mem.write_below hm (by omega) _) (by omega) _

/-- Writing an HDMA entry keeps the canonical form. -/
theorem Mem.setEntry_wf {m : Mem} (hm : Mem.wf noDefault m) (i : Nat) (e : Entry) : Mem.wf noDefault (Mem.setEntry m i e) :=
  Mem.write_wf (Mem.write_wf (Mem.write_wf (Mem.write_wf hm _ _) _ _) _ _) _ _

theorem Mem.setEntry_below {n : Nat} {m : Mem} (hm : Mem.below (4 * n) m) {i : Nat} (hi : i < n) (e : Entry) :
    Mem.below (4 * n) (Mem.setEntry m i e) :=
  Mem.write_below (Mem.write_below (Mem.write_below (Mem.write_below hm (by omega) _) (by omega) _) (by omega) _) (by omega) _

/-- Storing pixels keeps the canonical form. -/
theorem Mem.storePixels_wf {m : Mem} (hm : Mem.wf noDefault m) (a : Nat) (ps : List Pixel) :
    Mem.wf noDefault (Mem.storePixels m a ps) := by
  induction ps generalizing m a with
  | nil => exact hm
  | cons p t ih => exact ih (Mem.setHalf_wf hm _ _) _

/-! ### Entries -/

/-- A half is its two bytes. -/
theorem half_bytes (v : Half) : (v.extractLsb' 8 8 ++ v.extractLsb' 0 8 : BitVec (8 + 8)) = v := by
  apply BitVec.eq_of_getLsbD_eq
  intro k hk
  rw [BitVec.getLsbD_append]
  by_cases h : k < 8
  · simp [h]
  · simp [h, show 8 + (k - 8) = k by omega]; omega

theorem Mem.byte_write {m : Mem} (hm : m.Pairwise fun x y => x.1 < y.1) (a x : Nat) (b : Byte) :
    Mem.byte (Mem.write storeDefault m a b) x = if x = a then b else Mem.byte m x := by
  have h := Mem.get?_write (d := storeDefault) hm a x b
  simp only [Mem.byte, storeDefault] at h ⊢
  have key : ∀ o : Option Byte, o.or (some 0) = some (o.getD 0) := by intro o; cases o <;> rfl
  rw [key, key] at h
  split_ifs at h ⊢ <;> simpa using h

/-- A 16-bit entry after a write: the written one at its index, every other as before. -/
theorem Mem.half_setHalf {m : Mem} (hm : Mem.wf storeDefault m) (i j : Nat) (v : Half) :
    Mem.half (Mem.setHalf storeDefault m i v) j = if j = i then v else Mem.half m j := by
  have h1 := Mem.write_wf hm (2 * i) (v.extractLsb' 0 8)
  unfold Mem.half Mem.setHalf
  simp only [Mem.byte_write h1.1, Mem.byte_write hm.1]
  by_cases hij : j = i
  · subst hij
    simpa using half_bytes v
  · simp only [hij, if_false]
    rw [if_neg (by omega), if_neg (by omega), if_neg (by omega), if_neg (by omega)]

theorem Mem.hdmaByte_write (m : Mem) (a x : Nat) (b : Byte) :
    Mem.hdmaByte (Mem.write noDefault m a b) x = if x = a then b else Mem.hdmaByte m x := by
  unfold Mem.hdmaByte
  rw [Mem.get?_write_noDefault]
  split_ifs <;> rfl

/-- An HDMA entry after a write: the written one at its index, every other as before. -/
theorem Mem.entry_setEntry (m : Mem) (i j : Nat) (e : Entry) :
    Mem.entry (Mem.setEntry m i e) j = if j = i then e else Mem.entry m j := by
  unfold Mem.entry Mem.setEntry
  simp only [Mem.hdmaByte_write]
  by_cases hij : j = i
  · subst hij
    simpa using entryOfBytes_bytes e
  · simp only [hij, if_false]
    repeat rw [if_neg (by omega)]

/-! ### The frame buffer -/

/-- `fbWrap` is the remainder modulo `2 ^ FB_AW` (`20_memory.md` R78): below `2 ^ 14` an address is its own remainder. -/
theorem fbWrap_eq (a : Nat) : fbWrap a = a % 2 ^ Config.fbAW := by
  unfold fbWrap
  split_ifs with h
  · refine (Nat.mod_eq_of_lt (h.trans_le ?_)).symm
    exact Nat.pow_le_pow_right (by decide) (by unfold Config.fbAW; omega)
  · rfl

theorem fbWrap_lt (a : Nat) : fbWrap a < 2 ^ Config.fbAW := by
  rw [fbWrap_eq]; exact Nat.mod_lt _ (by positivity)

/-- A pixel after a store: the stored one at its wrapped address, every other as before. -/
theorem Mem.pixel?_storePixel (m : Mem) (a x : Nat) (p : Pixel) :
    Mem.pixel? (Mem.storePixel m a p) x = if x = fbWrap a then some p else Mem.pixel? m x := by
  unfold Mem.pixel? Mem.storePixel Mem.setHalf
  simp only [Mem.get?_write_noDefault]
  by_cases h : x = fbWrap a
  · subst h
    simpa using half_bytes p
  · simp only [h, if_false]
    repeat rw [if_neg (by omega)]

theorem Mem.storePixel_below {m : Mem} (hm : Mem.below (2 * 2 ^ Config.fbAW) m) (a : Nat) (p : Pixel) :
    Mem.below (2 * 2 ^ Config.fbAW) (Mem.storePixel m a p) :=
  Mem.setHalf_below hm (fbWrap_lt a) p

theorem Mem.storePixels_below {m : Mem} (hm : Mem.below (2 * 2 ^ Config.fbAW) m) (a : Nat) (ps : List Pixel) :
    Mem.below (2 * 2 ^ Config.fbAW) (Mem.storePixels m a ps) := by
  induction ps generalizing m a with
  | nil => exact hm
  | cons p t ih => exact ih (Mem.storePixel_below hm a p) _

/-- An address outside the stored run reads as before. -/
theorem Mem.pixel?_storePixels_other (m : Mem) (a : Nat) (ps : List Pixel) (x : Nat)
    (hx : ∀ k < ps.length, x ≠ fbWrap (a + k)) : Mem.pixel? (Mem.storePixels m a ps) x = Mem.pixel? m x := by
  induction ps generalizing m a with
  | nil => rfl
  | cons p t ih =>
    rw [Mem.storePixels, ih, Mem.pixel?_storePixel, if_neg]
    · simpa using hx 0 (by simp)
    · intro k hk
      have := hx (k + 1) (by simpa using hk)
      rwa [show a + 1 + k = a + (k + 1) by omega]

/-- Fewer than `2 ^ FB_AW` pixels stored one after another do not meet: each is read back at its address. -/
theorem Mem.pixel?_storePixels (m : Mem) (a : Nat) (ps : List Pixel) (hlen : ps.length ≤ 2 ^ Config.fbAW) (k : Nat)
    (hk : k < ps.length) : Mem.pixel? (Mem.storePixels m a ps) (fbWrap (a + k)) = some ps[k] := by
  induction ps generalizing m a k with
  | nil => simp at hk
  | cons p t ih =>
    rw [Mem.storePixels]
    cases k with
    | zero =>
      rw [Mem.pixel?_storePixels_other, Mem.pixel?_storePixel]
      · simp
      · intro j hj
        simp only [List.length_cons] at hlen
        rw [fbWrap_eq, fbWrap_eq]
        intro h
        have h1 : (a + 0) % 2 ^ Config.fbAW = (a + (1 + j)) % 2 ^ Config.fbAW := by
          rw [h]; congr 1; omega
        have h2 : 0 ≡ 1 + j [MOD 2 ^ Config.fbAW] := Nat.ModEq.add_left_cancel' a h1
        have h3 := Nat.ModEq.eq_of_lt_of_lt h2 (by positivity) (by omega)
        omega
    | succ k =>
      have := ih (Mem.storePixel m a p) (a + 1) (by simp at hlen; omega) k (by simpa using hk)
      rw [show a + 1 + k = a + (k + 1) by omega] at this
      simpa using this

/-! ### The 16-bit entries of x[34] -/

/-- The bits of a number one of whose 16-bit entries is replaced: those of the entry are the value's, every other is as before. -/
theorem withBasePiece_testBit (a h j : Nat) (v : Half) :
    (withBasePiece a h v).testBit j = if 16 * h ≤ j ∧ j < 16 * h + 16 then v.getLsbD (j - 16 * h) else a.testBit j := by
  have lo : v.toNat * 2 ^ (16 * h) + a % 2 ^ (16 * h) < 2 ^ (16 * (h + 1)) := by
    have h1 : a % 2 ^ (16 * h) < 2 ^ (16 * h) := Nat.mod_lt _ (Nat.two_pow_pos _)
    have h2 : (2 : Nat) ^ (16 * (h + 1)) = 2 ^ 16 * 2 ^ (16 * h) := by rw [← pow_add]; congr 1; omega
    have h3 : (v.toNat + 1) * 2 ^ (16 * h) ≤ 2 ^ 16 * 2 ^ (16 * h) := Nat.mul_le_mul_right _ v.isLt
    rw [Nat.add_mul] at h3
    omega
  unfold withBasePiece
  rw [Nat.add_assoc, Nat.mul_comm (a / _), Nat.testBit_two_pow_mul_add _ lo, Nat.mul_comm v.toNat,
    Nat.testBit_two_pow_mul_add _ (Nat.mod_lt _ (Nat.two_pow_pos _)), Nat.testBit_mod_two_pow, Nat.testBit_div_two_pow]
  split_ifs <;> first | omega | simp_all [BitVec.getLsbD]

/-- A replaced entry reads as written and every other entry as before. -/
theorem basePiece_withBasePiece (a h k : Nat) (v : Half) :
    basePiece (withBasePiece a h v) k = if k = h then v else basePiece a k := by
  apply BitVec.eq_of_getLsbD_eq
  intro i hi
  simp only [basePiece, BitVec.getLsbD_ofNat, Nat.testBit_div_two_pow, withBasePiece_testBit, hi, decide_true, Bool.true_and]
  split_ifs
  all_goals first
    | omega
    | simp only [BitVec.getLsbD_ofNat, Nat.testBit_div_two_pow, hi, decide_true, Bool.true_and]
    | (subst_vars; simp)

/-- All that a write of a 16-bit entry of x[34] does: the bits of FB_BASE after it, the rest of the state being as before by
definition. -/
theorem State.writeBasePiece_testBit (s : State) (h j : Nat) (v : Half) :
    (s.writeBasePiece h v).fbBase.testBit j =
      (decide (j < Config.fbAW) && if 16 * h ≤ j ∧ j < 16 * h + 16 then v.getLsbD (j - 16 * h) else s.fbBase.testBit j) := by
  show (fbWrap _).testBit j = _
  rw [fbWrap_eq, Nat.testBit_mod_two_pow, withBasePiece_testBit]

/-! ### The machine's memories -/

/-- The memories are canonical after reset. -/
theorem State.reset_memOk : MemOk State.reset := by simp [MemOk, State.reset, Mem.wf]

/-- Every write of the host keeps the memories canonical and within their spaces. -/
theorem State.writePlace_memOk {s : State} (h : MemOk s) (p : Place) (v : Entry) : MemOk (s.writePlace p v) := by
  obtain ⟨ho, h0, h1, hb, hs, hh, hf⟩ := h
  cases p with
  | reg n =>
    simp only [State.writePlace, State.writeReg]
    split <;> exact ⟨ho, h0, h1, hb, hs, hh, hf⟩
  | baseHigh h => exact ⟨ho, h0, h1, hb, hs, hh, hf⟩
  | oam i w =>
    exact ⟨⟨Mem.setHalf_wf ho.1 _ _, Mem.setHalf_below (n := 1280) ho.2 (by have := i.isLt; have := w.isLt; omega) _⟩,
      h0, h1, hb, hs, hh, hf⟩
  | map0 k => exact ⟨ho, ⟨Mem.setHalf_wf h0.1 _ _, Mem.setHalf_below (n := 4096) h0.2 k.isLt _⟩, h1, hb, hs, hh, hf⟩
  | map1 k => exact ⟨ho, h0, ⟨Mem.setHalf_wf h1.1 _ _, Mem.setHalf_below (n := 4096) h1.2 k.isLt _⟩, hb, hs, hh, hf⟩
  | bgAtlas k => exact ⟨ho, h0, h1, ⟨Mem.setHalf_wf hb.1 _ _, Mem.setHalf_below (n := 131072) hb.2 k.isLt _⟩, hs, hh, hf⟩
  | sprAtlas k => exact ⟨ho, h0, h1, hb, ⟨Mem.setHalf_wf hs.1 _ _, Mem.setHalf_below (n := 65536) hs.2 k.isLt _⟩, hh, hf⟩
  | hdma t r =>
    exact ⟨ho, h0, h1, hb, hs, ⟨Mem.setEntry_wf hh.1 _ _, Mem.setEntry_below (n := 1920) hh.2
      (by have := t.isLt; have := r.isLt; simp only [hdmaIndex, Config.hdmaLen]; omega) _⟩, hf⟩

end Sys2Proof.Machine
end

