-- ==== Sys2Proof/Laws/Operations.lean ====
section
/-!
SUPPORT. For each shared operation, once, what it does: the columns it computes and what it leaves unchanged, and what a step
can be.
-/

namespace Sys2Proof.Machine

/-! ### Rows of 240 columns -/

@[simp] theorem row240_length {α : Type} (f : Nat → α) : (row240 f).length = 240 := by simp [row240]

theorem row240_getD {α : Type} (f : Nat → α) (d : α) {c : Nat} (hc : c < 240) : (row240 f).getD c d = f c := by
  simp [row240, hc]

theorem row240_congr {α : Type} {f g : Nat → α} (h : ∀ c < 240, f c = g c) : row240 f = row240 g := by
  simp only [row240]
  exact List.map_congr_left fun c hc => h c (List.mem_range.mp hc)

/-- Two rows of 240 columns are equal when their columns are. -/
theorem row240_ext {α : Type} {f : Nat → α} {l : List α} {d : α} (hl : l.length = 240) (h : ∀ c < 240, l.getD c d = f c) :
    l = row240 f := by
  apply List.ext_getElem (by simp [hl])
  intro c h1 h2
  have hc : c < 240 := by omega
  have := h c hc
  simp only [row240, List.getElem_map, List.getElem_range]
  rw [← this, List.getD_eq_getElem?_getD, List.getElem?_eq_getElem h1]; rfl

/-! ### Line buffer operations: the columns, and the frame -/

theorem windowMask_laneAt (s : State) {c : Nat} (hc : c < 240) :
    (windowMask s).laneAt c = laneOf (region (s.in1 c) (s.in2 c)) := by
  simp only [windowMask, State.laneAt, State.setWmask_wmask]
  exact row240_getD _ _ hc

theorem windowMask_frame (s : State) : windowMask s = s.setWmask (windowMask s).wmask := rfl

theorem winLookup_select (n : BitVec 4) (s : State) {c : Nat} (hc : c < 240) :
    (winLookup n s).select.getD c false = winSel n (laneMain (s.laneAt c)) :=
  row240_getD (fun c => winSel n (laneMain (s.laneAt c))) false hc

theorem winLookup_frame (n : BitVec 4) (s : State) : winLookup n s = s.setSelect (winLookup n s).select := rfl

theorem fallback_mainAt (w : Bool) (s : State) {c : Nat} (hc : c < 240) :
    (fallback w s).mainAt c =
      if w && !visMain s.regs.bgcolWindows (s.laneAt c) then 0 else s.regs.mainColour := by
  simp only [fallback, State.mainAt, State.setLines_main]
  exact row240_getD _ _ hc

theorem fallback_subAt (w : Bool) (s : State) {c : Nat} (hc : c < 240) :
    (fallback w s).subAt c =
      if w && !visSub s.regs.bgcolWindows (s.laneAt c) then 0 else s.regs.subColour := by
  simp only [fallback, State.subAt, State.setLines_sub]
  exact row240_getD _ _ hc

theorem fallback_frame (w : Bool) (s : State) : fallback w s = s.setLines (fallback w s).main (fallback w s).sub := rfl

theorem bgRow_mainAt (b : Background) (s : State) {c : Nat} (hc : c < 240) :
    (bgRow b s).mainAt c =
      layerPixel (visMain b.windows (s.laneAt c)) (bgCmath b.flags) (bgColumn s b s.row c) (s.mainAt c) := by
  simp only [bgRow, State.mainAt, State.setLines_main]
  exact row240_getD _ _ hc

theorem bgRow_subAt (b : Background) (s : State) {c : Nat} (hc : c < 240) :
    (bgRow b s).subAt c =
      layerPixel (visSub b.windows (s.laneAt c)) (bgCmath b.flags) (bgColumn s b s.row c) (s.subAt c) := by
  simp only [bgRow, State.subAt, State.setLines_sub]
  exact row240_getD _ _ hc

theorem bgRow_frame (b : Background) (s : State) : bgRow b s = s.setLines (bgRow b s).main (bgRow b s).sub := rfl

theorem sprBlitKey_mainAt (q : BitVec 4) (i : Byte) (s : State) {c : Nat} (hc : c < 240) :
    (sprBlitKey q i s).mainAt c =
      blitPixel (visMain (s.sprite i).windows (s.laneAt c)) (blitCmath q) (sprColumn s (s.sprite i) q s.row c) (s.mainAt c) := by
  simp only [sprBlitKey, State.mainAt, State.setLines_main]
  exact row240_getD _ _ hc

theorem sprBlitKey_subAt (q : BitVec 4) (i : Byte) (s : State) {c : Nat} (hc : c < 240) :
    (sprBlitKey q i s).subAt c =
      blitPixel (visSub (s.sprite i).windows (s.laneAt c)) (blitCmath q) (sprColumn s (s.sprite i) q s.row c) (s.subAt c) := by
  simp only [sprBlitKey, State.subAt, State.setLines_sub]
  exact row240_getD _ _ hc

theorem sprBlitKey_frame (q : BitVec 4) (i : Byte) (s : State) :
    sprBlitKey q i s = s.setLines (sprBlitKey q i s).main (sprBlitKey q i s).sub := rfl

theorem sprBlit_frame (i : Byte) (s : State) : sprBlit i s = s.setLines (sprBlit i s).main (sprBlit i s).sub := rfl

theorem cmathRow_outAt (f : Byte) (s : State) {c : Nat} (hc : c < 240) :
    (cmathRow f s).outAt c = cmathPixel f s.fadeLevel (s.mainAt c) (s.subAt c) := by
  simp only [cmathRow, State.outAt, State.setOut_out]
  exact row240_getD _ _ hc

theorem cmathRow_frame (f : Byte) (s : State) : cmathRow f s = s.setOut (cmathRow f s).out := rfl

theorem cull_frame (s : State) : cull s = s.setCache (cull s).cache0 (cull s).cache1 := rfl

theorem storeRow_frame (s : State) : storeRow s = s.setFb (storeRow s).fb := rfl

/-- A state that is `s` but for its line buffers names them itself. -/
theorem eq_setLines {s t : State} {m b : List Pixel} (h : t = s.setLines m b) : t = s.setLines t.main t.sub := by
  rw [h]; rfl

theorem setLines_setLines (s : State) (m b m' b' : List Pixel) : (s.setLines m b).setLines m' b' = s.setLines m' b' := rfl

/-- A layer of sprites changes the line buffers only. -/
theorem sprLayer_lines (l : List Slot) (s : State) : ∃ m b, sprLayer l s = s.setLines m b := by
  induction l generalizing s with
  | nil => exact ⟨s.main, s.sub, rfl⟩
  | cons o t ih =>
    cases o with
    | none => exact ⟨s.main, s.sub, rfl⟩
    | some i =>
      obtain ⟨m, b, h⟩ := ih (sprBlit i s)
      exact ⟨m, b, by rw [sprLayer, h, sprBlit_frame, setLines_setLines]⟩

theorem stageSpr0_lines (k : BitVec 6) (s : State) : ∃ m b, stageSpr0 k s = s.setLines m b := by
  unfold stageSpr0
  split
  · exact sprLayer_lines _ _
  · exact ⟨s.main, s.sub, rfl⟩

theorem stageSpr1_lines (k : BitVec 6) (s : State) : ∃ m b, stageSpr1 k s = s.setLines m b := by
  unfold stageSpr1
  split
  · exact sprLayer_lines _ _
  · exact ⟨s.main, s.sub, rfl⟩

theorem stageBg0_lines (k : BitVec 6) (s : State) : ∃ m b, stageBg0 k s = s.setLines m b := by
  unfold stageBg0
  split
  · exact ⟨_, _, bgRow_frame _ _⟩
  · exact ⟨s.main, s.sub, rfl⟩

theorem stageBg1_lines (k : BitVec 6) (s : State) : ∃ m b, stageBg1 k s = s.setLines m b := by
  unfold stageBg1
  split
  · exact ⟨_, _, bgRow_frame _ _⟩
  · exact ⟨s.main, s.sub, rfl⟩

/-- The layers change the line buffers only. -/
theorem composeLayers_lines (k : BitVec 6) (s : State) : ∃ m b, composeLayers k s = s.setLines m b := by
  unfold composeLayers
  generalize h0 : fallback (keyBgColWin k) s = s0
  obtain ⟨m1, b1, h1⟩ := stageSpr0_lines k s0
  obtain ⟨m2, b2, h2⟩ := stageBg0_lines k (stageSpr0 k s0)
  obtain ⟨m3, b3, h3⟩ := stageBg1_lines k (stageBg0 k (stageSpr0 k s0))
  obtain ⟨m4, b4, h4⟩ := stageSpr1_lines k (stageBg1 k (stageBg0 k (stageSpr0 k s0)))
  refine ⟨m4, b4, ?_⟩
  rw [h4, h3, setLines_setLines, h2, setLines_setLines, h1, setLines_setLines, ← h0, fallback_frame, setLines_setLines]

theorem composeLayers_frame (k : BitVec 6) (s : State) :
    composeLayers k s = s.setLines (composeLayers k s).main (composeLayers k s).sub := by
  obtain ⟨m, b, h⟩ := composeLayers_lines k s
  exact eq_setLines h

/-- The CMATH stage changes the output row only. -/
theorem stageCmath_out (k : BitVec 6) (s : State) : ∃ o, stageCmath k s = s.setOut o := by
  unfold stageCmath
  split
  · exact ⟨_, cmathRow_frame _ _⟩
  · exact ⟨_, rfl⟩

/-- A scanline microcode changes the line buffers, the output row and the frame buffer only. -/
theorem composeRow_parts (k : BitVec 6) (s : State) :
    ∃ m b o f, composeRow k s = (((s.setLines m b).setOut o).setFb f) := by
  obtain ⟨m, b, h1⟩ := composeLayers_lines k s
  obtain ⟨o, h2⟩ := stageCmath_out k (composeLayers k s)
  exact ⟨m, b, o, (storeRow (stageCmath k (composeLayers k s))).fb, by
    rw [composeRow, storeRow_frame, h2, h1]; rfl⟩

theorem composeRow_frame (k : BitVec 6) (s : State) :
    composeRow k s =
      ((s.setLines (composeRow k s).main (composeRow k s).sub).setOut (composeRow k s).out).setFb (composeRow k s).fb := by
  obtain ⟨m, b, o, f, h⟩ := composeRow_parts k s
  rw [h]; rfl

theorem stageCmath_out_length (k : BitVec 6) (s : State) : (stageCmath k s).out.length = 240 := by
  unfold stageCmath
  split <;> simp [cmathRow]

/-- Preparing a row rebuilds the sprite cache, where wanted, and the window mask, and changes nothing else. -/
theorem prepareRow_frame (s : State) :
    prepareRow s = (s.setCache (prepareRow s).cache0 (prepareRow s).cache1).setWmask (prepareRow s).wmask := by
  unfold prepareRow
  split <;> rfl

/-! ### Registers by number -/

/-- Writing a State Store register and reading any: the written bits at its number, every other register as before. -/
theorem Regs.read_write_same (r : Regs) (n : Nat) (v : Half) (h1 : 1 ≤ n) (h2 : n ≤ 19) :
    (r.write n v).read n = BitVec.ofNat 16 (v.toNat % 2 ^ storeWidth n) := by
  apply BitVec.eq_of_toNat_eq
  have := v.isLt
  interval_cases n <;> simp [Regs.write, Regs.read, storeWidth] <;> omega

theorem Regs.read_write_other (r : Regs) (n k : Nat) (v : Half) (h : k ≠ n) : (r.write n v).read k = r.read k := by
  unfold Regs.write
  split <;> first | rfl | (unfold Regs.read; split <;> first | rfl | (exfalso; exact h rfl))

/-! ### What a step can be -/

/-- A step of a machine without a singly dispatched word is a turn of the sequencer while busy, unless the host polls STATUS,
and the host's next access otherwise. -/
theorem step_eq (s : State) (h : s.dispatch = none) :
    step s = if s.busy = 1#1 ∧ pollsStatus s = false then busyTurn s else hostTurn s := by
  unfold step machineStep
  simp [h]

/-- A step with a singly dispatched word runs it. -/
theorem step_dispatch (s : State) (c : Code) (h : s.dispatch = some c) : step s = runCode c (s.setDispatch none) := by
  unfold step machineStep
  simp [h]

theorem onNext_eq_next {r : Result} {g : State → State} {t : State} (h : onNext r g = .next t) :
    ∃ u, r = .next u ∧ t = g u := by
  cases r with
  | next u => exact ⟨u, rfl, by simpa [onNext] using h.symm⟩
  | fault f => cases f
  | refused q => simp [onNext] at h

/-! ### The launch of a render and the host's accesses -/

/-- The check `RENDER` makes is the precondition the statements name. -/
theorem State.regionPresent_iff (s : State) (base : Nat) : s.regionPresent base = true ↔ RegionBacked s base := by
  simp only [State.regionPresent, RegionBacked, FbRange.takes, fbWrap_eq, List.all_eq_true, List.mem_range, Bool.not_eq_true',
    ← Bool.decide_and, decide_eq_false_iff_not]

/-- `RENDER` is refused, or clears its section under forced blank, or starts it. -/
theorem execRender_cases (v : Half) (s : State) :
    (s.busy = 1#1 ∧ execRender v s = .refused .hostAccessWhileBusy) ∨
    (s.busy = 0#1 ∧ ¬RegionBacked s s.fbBase ∧ execRender v s = .refused .frameBufferAbsent) ∨
    (s.busy = 0#1 ∧ RegionBacked s s.fbBase ∧ s.forcedBlank = 1#1 ∧
      execRender v s = .next (forcedBlank (sectionOf v) s.fbBase (acceptRender (sectionOf v) s))) ∨
    (s.busy = 0#1 ∧ RegionBacked s s.fbBase ∧ s.forcedBlank = 0#1 ∧
      execRender v s = .next ((acceptRender (sectionOf v) s).setBusy 1#1)) := by
  have bit : ∀ b : BitVec 1, b ≠ 1#1 → b = 0#1 := by decide
  unfold execRender
  by_cases hb : s.busy = 1#1
  · exact .inl ⟨hb, if_pos hb⟩
  rw [if_neg hb]
  have hb0 := bit _ hb
  by_cases hp : s.regionPresent s.fbBase = true
  · have hr := (s.regionPresent_iff _).1 hp
    rw [if_neg (by simp [hp])]
    by_cases hf : s.forcedBlank = 1#1
    · exact .inr (.inr (.inl ⟨hb0, hr, hf, if_pos hf⟩))
    · exact .inr (.inr (.inr ⟨hb0, hr, bit _ hf, if_neg hf⟩))
  · exact .inr (.inl ⟨hb0, fun h => hp ((s.regionPresent_iff _).2 h), if_pos (by simpa using hp)⟩)

/-- An idle step serves the host's next access: a command runs, any other access is plain. -/
theorem step_idle (s : State) (hd : s.dispatch = none) (hb : s.busy = 0#1) : step s = hostTurn s := by
  rw [step_eq s hd]; simp [hb]

end Sys2Proof.Machine
end

