-- ==== Sys2Proof/Laws/PerInstr.lean ====
section
/-!
SUPPORT. The families of statements made instruction by instruction.
-/

namespace Sys2Proof.Laws.EncodesItsRow

/-- A well-formed instruction's word lies in the instruction's row of `spec/opcode_table.json`. -/
def Statement (i : Instr) : Prop := i.wf = true → i.row.holds (encode i)

theorem hdmaNop (value : Half) : Statement (.hdmaNop value) :=
  fun _ => ⟨rfl, entryOf_full_mask _ _⟩

theorem hdmaWMainColour (value : Half) : Statement (.hdmaWMainColour value) :=
  fun _ => ⟨rfl, entryOf_full_mask _ _⟩

theorem hdmaWSubColour (value : Half) : Statement (.hdmaWSubColour value) :=
  fun _ => ⟨rfl, entryOf_full_mask _ _⟩

theorem hdmaWWin1Left (value : Half) : Statement (.hdmaWWin1Left value) :=
  fun _ => ⟨rfl, entryOf_full_mask _ _⟩

theorem hdmaWWin1Right (value : Half) : Statement (.hdmaWWin1Right value) :=
  fun _ => ⟨rfl, entryOf_full_mask _ _⟩

theorem hdmaWWin2Left (value : Half) : Statement (.hdmaWWin2Left value) :=
  fun _ => ⟨rfl, entryOf_full_mask _ _⟩

theorem hdmaWWin2Right (value : Half) : Statement (.hdmaWWin2Right value) :=
  fun _ => ⟨rfl, entryOf_full_mask _ _⟩

theorem hdmaWBgcolWindows (value : Half) : Statement (.hdmaWBgcolWindows value) :=
  fun _ => ⟨rfl, entryOf_full_mask _ _⟩

theorem hdmaWMainFlags (value : Half) : Statement (.hdmaWMainFlags value) :=
  fun _ => ⟨rfl, entryOf_full_mask _ _⟩

theorem hdmaWCmathFade (value : Half) : Statement (.hdmaWCmathFade value) :=
  fun _ => ⟨rfl, entryOf_full_mask _ _⟩

theorem hdmaWCmathFlags (value : Half) : Statement (.hdmaWCmathFlags value) :=
  fun _ => ⟨rfl, entryOf_full_mask _ _⟩

theorem hdmaWBg0X (value : Half) : Statement (.hdmaWBg0X value) :=
  fun _ => ⟨rfl, entryOf_full_mask _ _⟩

theorem hdmaWBg0Y (value : Half) : Statement (.hdmaWBg0Y value) :=
  fun _ => ⟨rfl, entryOf_full_mask _ _⟩

theorem hdmaWBg0Windows (value : Half) : Statement (.hdmaWBg0Windows value) :=
  fun _ => ⟨rfl, entryOf_full_mask _ _⟩

theorem hdmaWBg0Flags (value : Half) : Statement (.hdmaWBg0Flags value) :=
  fun _ => ⟨rfl, entryOf_full_mask _ _⟩

theorem hdmaWBg1X (value : Half) : Statement (.hdmaWBg1X value) :=
  fun _ => ⟨rfl, entryOf_full_mask _ _⟩

theorem hdmaWBg1Y (value : Half) : Statement (.hdmaWBg1Y value) :=
  fun _ => ⟨rfl, entryOf_full_mask _ _⟩

theorem hdmaWBg1Windows (value : Half) : Statement (.hdmaWBg1Windows value) :=
  fun _ => ⟨rfl, entryOf_full_mask _ _⟩

theorem hdmaWBg1Flags (value : Half) : Statement (.hdmaWBg1Flags value) :=
  fun _ => ⟨rfl, entryOf_full_mask _ _⟩

theorem hdmaWHdmaEnable (value : Half) : Statement (.hdmaWHdmaEnable value) :=
  fun _ => ⟨rfl, entryOf_full_mask _ _⟩

theorem hdmaDisable (value : Half) : Statement (.hdmaDisable value) :=
  fun _ => ⟨rfl, entryOf_full_mask _ _⟩

theorem hdmaRsvd21 (tag : Half) (value : Half) : Statement (.hdmaRsvd21 tag value) :=
  fun h => ⟨rfl, entryOf_block_mask 0 21 (by decide) rfl rfl (tagIn_iff.mp h)⟩

theorem hdmaRsvd22 (tag : Half) (value : Half) : Statement (.hdmaRsvd22 tag value) :=
  fun h => ⟨rfl, entryOf_block_mask 1 11 (by decide) rfl rfl (tagIn_iff.mp h)⟩

theorem hdmaRsvd24 (tag : Half) (value : Half) : Statement (.hdmaRsvd24 tag value) :=
  fun h => ⟨rfl, entryOf_block_mask 3 3 (by decide) rfl rfl (tagIn_iff.mp h)⟩

theorem hdmaRsvd32 (tag : Half) (value : Half) : Statement (.hdmaRsvd32 tag value) :=
  fun h => ⟨rfl, entryOf_block_mask 5 1 (by decide) rfl rfl (tagIn_iff.mp h)⟩

theorem hdmaRsvd64 (tag : Half) (value : Half) : Statement (.hdmaRsvd64 tag value) :=
  fun h => ⟨rfl, entryOf_block_mask 6 1 (by decide) rfl rfl (tagIn_iff.mp h)⟩

theorem hdmaRsvd128 (tag : Half) (value : Half) : Statement (.hdmaRsvd128 tag value) :=
  fun h => ⟨rfl, entryOf_block_mask 7 1 (by decide) rfl rfl (tagIn_iff.mp h)⟩

theorem hdmaRsvd256 (tag : Half) (value : Half) : Statement (.hdmaRsvd256 tag value) :=
  fun h => ⟨rfl, entryOf_block_mask 8 1 (by decide) rfl rfl (tagIn_iff.mp h)⟩

theorem hdmaRsvd512 (tag : Half) (value : Half) : Statement (.hdmaRsvd512 tag value) :=
  fun h => ⟨rfl, entryOf_block_mask 9 1 (by decide) rfl rfl (tagIn_iff.mp h)⟩

theorem hdmaRsvd1024 (tag : Half) (value : Half) : Statement (.hdmaRsvd1024 tag value) :=
  fun h => ⟨rfl, entryOf_block_mask 10 1 (by decide) rfl rfl (tagIn_iff.mp h)⟩

theorem hdmaRsvd2048 (tag : Half) (value : Half) : Statement (.hdmaRsvd2048 tag value) :=
  fun h => ⟨rfl, entryOf_block_mask 11 1 (by decide) rfl rfl (tagIn_iff.mp h)⟩

theorem hdmaRsvd4096 (tag : Half) (value : Half) : Statement (.hdmaRsvd4096 tag value) :=
  fun h => ⟨rfl, entryOf_block_mask 12 1 (by decide) rfl rfl (tagIn_iff.mp h)⟩

theorem hdmaRsvd8192 (tag : Half) (value : Half) : Statement (.hdmaRsvd8192 tag value) :=
  fun h => ⟨rfl, entryOf_block_mask 13 1 (by decide) rfl rfl (tagIn_iff.mp h)⟩

theorem hdmaRsvd16384 (tag : Half) (value : Half) : Statement (.hdmaRsvd16384 tag value) :=
  fun h => ⟨rfl, entryOf_block_mask 14 1 (by decide) rfl rfl (tagIn_iff.mp h)⟩

theorem hdmaRsvd32768 (tag : Half) (value : Half) : Statement (.hdmaRsvd32768 tag value) :=
  fun h => ⟨rfl, entryOf_block_mask 15 1 (by decide) rfl rfl (tagIn_iff.mp h)⟩

theorem render (v : Half) : Statement (.render v) :=
  fun _ => ⟨rfl, BitVec.and_zero⟩

theorem blank (v : Half) : Statement (.blank v) :=
  fun _ => ⟨rfl, BitVec.and_zero⟩

theorem sprblit0 (i : Byte) : Statement (.sprblit0 i) :=
  fun _ => ⟨rfl, show (0x00#8).zeroExtend 32 &&& 0x3C#32 = 0x00#32 by decide⟩

theorem sprblit1 (i : Byte) : Statement (.sprblit1 i) :=
  fun _ => ⟨rfl, show (0x04#8).zeroExtend 32 &&& 0x3C#32 = 0x04#32 by decide⟩

theorem sprblit2 (i : Byte) : Statement (.sprblit2 i) :=
  fun _ => ⟨rfl, show (0x08#8).zeroExtend 32 &&& 0x3C#32 = 0x08#32 by decide⟩

theorem sprblit3 (i : Byte) : Statement (.sprblit3 i) :=
  fun _ => ⟨rfl, show (0x0C#8).zeroExtend 32 &&& 0x3C#32 = 0x0C#32 by decide⟩

theorem sprblit4 (i : Byte) : Statement (.sprblit4 i) :=
  fun _ => ⟨rfl, show (0x10#8).zeroExtend 32 &&& 0x3C#32 = 0x10#32 by decide⟩

theorem sprblit5 (i : Byte) : Statement (.sprblit5 i) :=
  fun _ => ⟨rfl, show (0x14#8).zeroExtend 32 &&& 0x3C#32 = 0x14#32 by decide⟩

theorem sprblit6 (i : Byte) : Statement (.sprblit6 i) :=
  fun _ => ⟨rfl, show (0x18#8).zeroExtend 32 &&& 0x3C#32 = 0x18#32 by decide⟩

theorem sprblit7 (i : Byte) : Statement (.sprblit7 i) :=
  fun _ => ⟨rfl, show (0x1C#8).zeroExtend 32 &&& 0x3C#32 = 0x1C#32 by decide⟩

theorem sprblit8 (i : Byte) : Statement (.sprblit8 i) :=
  fun _ => ⟨rfl, show (0x20#8).zeroExtend 32 &&& 0x3C#32 = 0x20#32 by decide⟩

theorem sprblit9 (i : Byte) : Statement (.sprblit9 i) :=
  fun _ => ⟨rfl, show (0x24#8).zeroExtend 32 &&& 0x3C#32 = 0x24#32 by decide⟩

theorem sprblit10 (i : Byte) : Statement (.sprblit10 i) :=
  fun _ => ⟨rfl, show (0x28#8).zeroExtend 32 &&& 0x3C#32 = 0x28#32 by decide⟩

theorem sprblit11 (i : Byte) : Statement (.sprblit11 i) :=
  fun _ => ⟨rfl, show (0x2C#8).zeroExtend 32 &&& 0x3C#32 = 0x2C#32 by decide⟩

theorem sprblit12 (i : Byte) : Statement (.sprblit12 i) :=
  fun _ => ⟨rfl, show (0x30#8).zeroExtend 32 &&& 0x3C#32 = 0x30#32 by decide⟩

theorem sprblit13 (i : Byte) : Statement (.sprblit13 i) :=
  fun _ => ⟨rfl, show (0x34#8).zeroExtend 32 &&& 0x3C#32 = 0x34#32 by decide⟩

theorem sprblit14 (i : Byte) : Statement (.sprblit14 i) :=
  fun _ => ⟨rfl, show (0x38#8).zeroExtend 32 &&& 0x3C#32 = 0x38#32 by decide⟩

theorem sprblit15 (i : Byte) : Statement (.sprblit15 i) :=
  fun _ => ⟨rfl, show (0x3C#8).zeroExtend 32 &&& 0x3C#32 = 0x3C#32 by decide⟩

theorem scan00 : Statement .scan00 :=
  fun _ => ⟨rfl, rfl⟩

theorem scan01 : Statement .scan01 :=
  fun _ => ⟨rfl, rfl⟩

theorem scan02 : Statement .scan02 :=
  fun _ => ⟨rfl, rfl⟩

theorem scan03 : Statement .scan03 :=
  fun _ => ⟨rfl, rfl⟩

theorem scan04 : Statement .scan04 :=
  fun _ => ⟨rfl, rfl⟩

theorem scan05 : Statement .scan05 :=
  fun _ => ⟨rfl, rfl⟩

theorem scan06 : Statement .scan06 :=
  fun _ => ⟨rfl, rfl⟩

theorem scan07 : Statement .scan07 :=
  fun _ => ⟨rfl, rfl⟩

theorem scan08 : Statement .scan08 :=
  fun _ => ⟨rfl, rfl⟩

theorem scan09 : Statement .scan09 :=
  fun _ => ⟨rfl, rfl⟩

theorem scan0A : Statement .scan0A :=
  fun _ => ⟨rfl, rfl⟩

theorem scan0B : Statement .scan0B :=
  fun _ => ⟨rfl, rfl⟩

theorem scan0C : Statement .scan0C :=
  fun _ => ⟨rfl, rfl⟩

theorem scan0D : Statement .scan0D :=
  fun _ => ⟨rfl, rfl⟩

theorem scan0E : Statement .scan0E :=
  fun _ => ⟨rfl, rfl⟩

theorem scan0F : Statement .scan0F :=
  fun _ => ⟨rfl, rfl⟩

theorem scan10 : Statement .scan10 :=
  fun _ => ⟨rfl, rfl⟩

theorem scan11 : Statement .scan11 :=
  fun _ => ⟨rfl, rfl⟩

theorem scan12 : Statement .scan12 :=
  fun _ => ⟨rfl, rfl⟩

theorem scan13 : Statement .scan13 :=
  fun _ => ⟨rfl, rfl⟩

theorem scan14 : Statement .scan14 :=
  fun _ => ⟨rfl, rfl⟩

theorem scan15 : Statement .scan15 :=
  fun _ => ⟨rfl, rfl⟩

theorem scan16 : Statement .scan16 :=
  fun _ => ⟨rfl, rfl⟩

theorem scan17 : Statement .scan17 :=
  fun _ => ⟨rfl, rfl⟩

theorem scan18 : Statement .scan18 :=
  fun _ => ⟨rfl, rfl⟩

theorem scan19 : Statement .scan19 :=
  fun _ => ⟨rfl, rfl⟩

theorem scan1A : Statement .scan1A :=
  fun _ => ⟨rfl, rfl⟩

theorem scan1B : Statement .scan1B :=
  fun _ => ⟨rfl, rfl⟩

theorem scan1C : Statement .scan1C :=
  fun _ => ⟨rfl, rfl⟩

theorem scan1D : Statement .scan1D :=
  fun _ => ⟨rfl, rfl⟩

theorem scan1E : Statement .scan1E :=
  fun _ => ⟨rfl, rfl⟩

theorem scan1F : Statement .scan1F :=
  fun _ => ⟨rfl, rfl⟩

theorem scan20 : Statement .scan20 :=
  fun _ => ⟨rfl, rfl⟩

theorem scan21 : Statement .scan21 :=
  fun _ => ⟨rfl, rfl⟩

theorem scan22 : Statement .scan22 :=
  fun _ => ⟨rfl, rfl⟩

theorem scan23 : Statement .scan23 :=
  fun _ => ⟨rfl, rfl⟩

theorem scan24 : Statement .scan24 :=
  fun _ => ⟨rfl, rfl⟩

theorem scan25 : Statement .scan25 :=
  fun _ => ⟨rfl, rfl⟩

theorem scan26 : Statement .scan26 :=
  fun _ => ⟨rfl, rfl⟩

theorem scan27 : Statement .scan27 :=
  fun _ => ⟨rfl, rfl⟩

theorem scan28 : Statement .scan28 :=
  fun _ => ⟨rfl, rfl⟩

theorem scan29 : Statement .scan29 :=
  fun _ => ⟨rfl, rfl⟩

theorem scan2A : Statement .scan2A :=
  fun _ => ⟨rfl, rfl⟩

theorem scan2B : Statement .scan2B :=
  fun _ => ⟨rfl, rfl⟩

theorem scan2C : Statement .scan2C :=
  fun _ => ⟨rfl, rfl⟩

theorem scan2D : Statement .scan2D :=
  fun _ => ⟨rfl, rfl⟩

theorem scan2E : Statement .scan2E :=
  fun _ => ⟨rfl, rfl⟩

theorem scan2F : Statement .scan2F :=
  fun _ => ⟨rfl, rfl⟩

theorem scan30 : Statement .scan30 :=
  fun _ => ⟨rfl, rfl⟩

theorem scan31 : Statement .scan31 :=
  fun _ => ⟨rfl, rfl⟩

theorem scan32 : Statement .scan32 :=
  fun _ => ⟨rfl, rfl⟩

theorem scan33 : Statement .scan33 :=
  fun _ => ⟨rfl, rfl⟩

theorem scan34 : Statement .scan34 :=
  fun _ => ⟨rfl, rfl⟩

theorem scan35 : Statement .scan35 :=
  fun _ => ⟨rfl, rfl⟩

theorem scan36 : Statement .scan36 :=
  fun _ => ⟨rfl, rfl⟩

theorem scan37 : Statement .scan37 :=
  fun _ => ⟨rfl, rfl⟩

theorem scan38 : Statement .scan38 :=
  fun _ => ⟨rfl, rfl⟩

theorem scan39 : Statement .scan39 :=
  fun _ => ⟨rfl, rfl⟩

theorem scan3A : Statement .scan3A :=
  fun _ => ⟨rfl, rfl⟩

theorem scan3B : Statement .scan3B :=
  fun _ => ⟨rfl, rfl⟩

theorem scan3C : Statement .scan3C :=
  fun _ => ⟨rfl, rfl⟩

theorem scan3D : Statement .scan3D :=
  fun _ => ⟨rfl, rfl⟩

theorem scan3E : Statement .scan3E :=
  fun _ => ⟨rfl, rfl⟩

theorem scan3F : Statement .scan3F :=
  fun _ => ⟨rfl, rfl⟩

theorem cmath00 : Statement .cmath00 :=
  fun _ => ⟨rfl, rfl⟩

theorem cmath01 : Statement .cmath01 :=
  fun _ => ⟨rfl, rfl⟩

theorem cmath02 : Statement .cmath02 :=
  fun _ => ⟨rfl, rfl⟩

theorem cmath03 : Statement .cmath03 :=
  fun _ => ⟨rfl, rfl⟩

theorem cmath04 : Statement .cmath04 :=
  fun _ => ⟨rfl, rfl⟩

theorem cmath05 : Statement .cmath05 :=
  fun _ => ⟨rfl, rfl⟩

theorem cmath06 : Statement .cmath06 :=
  fun _ => ⟨rfl, rfl⟩

theorem cmath07 : Statement .cmath07 :=
  fun _ => ⟨rfl, rfl⟩

theorem cmath08 : Statement .cmath08 :=
  fun _ => ⟨rfl, rfl⟩

theorem cmath09 : Statement .cmath09 :=
  fun _ => ⟨rfl, rfl⟩

theorem cmath0A : Statement .cmath0A :=
  fun _ => ⟨rfl, rfl⟩

theorem cmath0B : Statement .cmath0B :=
  fun _ => ⟨rfl, rfl⟩

theorem cmath0C : Statement .cmath0C :=
  fun _ => ⟨rfl, rfl⟩

theorem cmath0D : Statement .cmath0D :=
  fun _ => ⟨rfl, rfl⟩

theorem cmath0E : Statement .cmath0E :=
  fun _ => ⟨rfl, rfl⟩

theorem cmath0F : Statement .cmath0F :=
  fun _ => ⟨rfl, rfl⟩

theorem cmath10 : Statement .cmath10 :=
  fun _ => ⟨rfl, rfl⟩

theorem cmath11 : Statement .cmath11 :=
  fun _ => ⟨rfl, rfl⟩

theorem cmath12 : Statement .cmath12 :=
  fun _ => ⟨rfl, rfl⟩

theorem cmath13 : Statement .cmath13 :=
  fun _ => ⟨rfl, rfl⟩

theorem cmath14 : Statement .cmath14 :=
  fun _ => ⟨rfl, rfl⟩

theorem cmath15 : Statement .cmath15 :=
  fun _ => ⟨rfl, rfl⟩

theorem cmath16 : Statement .cmath16 :=
  fun _ => ⟨rfl, rfl⟩

theorem cmath17 : Statement .cmath17 :=
  fun _ => ⟨rfl, rfl⟩

theorem cmath18 : Statement .cmath18 :=
  fun _ => ⟨rfl, rfl⟩

theorem cmath19 : Statement .cmath19 :=
  fun _ => ⟨rfl, rfl⟩

theorem cmath1A : Statement .cmath1A :=
  fun _ => ⟨rfl, rfl⟩

theorem cmath1B : Statement .cmath1B :=
  fun _ => ⟨rfl, rfl⟩

theorem cmath1C : Statement .cmath1C :=
  fun _ => ⟨rfl, rfl⟩

theorem cmath1D : Statement .cmath1D :=
  fun _ => ⟨rfl, rfl⟩

theorem cmath1E : Statement .cmath1E :=
  fun _ => ⟨rfl, rfl⟩

theorem cmath1F : Statement .cmath1F :=
  fun _ => ⟨rfl, rfl⟩

theorem cmath20 : Statement .cmath20 :=
  fun _ => ⟨rfl, rfl⟩

theorem cmath21 : Statement .cmath21 :=
  fun _ => ⟨rfl, rfl⟩

theorem cmath22 : Statement .cmath22 :=
  fun _ => ⟨rfl, rfl⟩

theorem cmath23 : Statement .cmath23 :=
  fun _ => ⟨rfl, rfl⟩

theorem cmath24 : Statement .cmath24 :=
  fun _ => ⟨rfl, rfl⟩

theorem cmath25 : Statement .cmath25 :=
  fun _ => ⟨rfl, rfl⟩

theorem cmath26 : Statement .cmath26 :=
  fun _ => ⟨rfl, rfl⟩

theorem cmath27 : Statement .cmath27 :=
  fun _ => ⟨rfl, rfl⟩

theorem cmath28 : Statement .cmath28 :=
  fun _ => ⟨rfl, rfl⟩

theorem cmath29 : Statement .cmath29 :=
  fun _ => ⟨rfl, rfl⟩

theorem cmath2A : Statement .cmath2A :=
  fun _ => ⟨rfl, rfl⟩

theorem cmath2B : Statement .cmath2B :=
  fun _ => ⟨rfl, rfl⟩

theorem cmath2C : Statement .cmath2C :=
  fun _ => ⟨rfl, rfl⟩

theorem cmath2D : Statement .cmath2D :=
  fun _ => ⟨rfl, rfl⟩

theorem cmath2E : Statement .cmath2E :=
  fun _ => ⟨rfl, rfl⟩

theorem cmath2F : Statement .cmath2F :=
  fun _ => ⟨rfl, rfl⟩

theorem cmath30 : Statement .cmath30 :=
  fun _ => ⟨rfl, rfl⟩

theorem cmath31 : Statement .cmath31 :=
  fun _ => ⟨rfl, rfl⟩

theorem cmath32 : Statement .cmath32 :=
  fun _ => ⟨rfl, rfl⟩

theorem cmath33 : Statement .cmath33 :=
  fun _ => ⟨rfl, rfl⟩

theorem cmath34 : Statement .cmath34 :=
  fun _ => ⟨rfl, rfl⟩

theorem cmath35 : Statement .cmath35 :=
  fun _ => ⟨rfl, rfl⟩

theorem cmath36 : Statement .cmath36 :=
  fun _ => ⟨rfl, rfl⟩

theorem cmath37 : Statement .cmath37 :=
  fun _ => ⟨rfl, rfl⟩

theorem cmath38 : Statement .cmath38 :=
  fun _ => ⟨rfl, rfl⟩

theorem cmath39 : Statement .cmath39 :=
  fun _ => ⟨rfl, rfl⟩

theorem cmath3A : Statement .cmath3A :=
  fun _ => ⟨rfl, rfl⟩

theorem cmath3B : Statement .cmath3B :=
  fun _ => ⟨rfl, rfl⟩

theorem cmath3C : Statement .cmath3C :=
  fun _ => ⟨rfl, rfl⟩

theorem cmath3D : Statement .cmath3D :=
  fun _ => ⟨rfl, rfl⟩

theorem cmath3E : Statement .cmath3E :=
  fun _ => ⟨rfl, rfl⟩

theorem cmath3F : Statement .cmath3F :=
  fun _ => ⟨rfl, rfl⟩

theorem cmath40 : Statement .cmath40 :=
  fun _ => ⟨rfl, rfl⟩

theorem cmath41 : Statement .cmath41 :=
  fun _ => ⟨rfl, rfl⟩

theorem cmath42 : Statement .cmath42 :=
  fun _ => ⟨rfl, rfl⟩

theorem cmath43 : Statement .cmath43 :=
  fun _ => ⟨rfl, rfl⟩

theorem cmath44 : Statement .cmath44 :=
  fun _ => ⟨rfl, rfl⟩

theorem cmath45 : Statement .cmath45 :=
  fun _ => ⟨rfl, rfl⟩

theorem cmath46 : Statement .cmath46 :=
  fun _ => ⟨rfl, rfl⟩

theorem cmath47 : Statement .cmath47 :=
  fun _ => ⟨rfl, rfl⟩

theorem cmath48 : Statement .cmath48 :=
  fun _ => ⟨rfl, rfl⟩

theorem cmath49 : Statement .cmath49 :=
  fun _ => ⟨rfl, rfl⟩

theorem cmath4A : Statement .cmath4A :=
  fun _ => ⟨rfl, rfl⟩

theorem cmath4B : Statement .cmath4B :=
  fun _ => ⟨rfl, rfl⟩

theorem cmath4C : Statement .cmath4C :=
  fun _ => ⟨rfl, rfl⟩

theorem cmath4D : Statement .cmath4D :=
  fun _ => ⟨rfl, rfl⟩

theorem cmath4E : Statement .cmath4E :=
  fun _ => ⟨rfl, rfl⟩

theorem cmath4F : Statement .cmath4F :=
  fun _ => ⟨rfl, rfl⟩

theorem cmath50 : Statement .cmath50 :=
  fun _ => ⟨rfl, rfl⟩

theorem cmath51 : Statement .cmath51 :=
  fun _ => ⟨rfl, rfl⟩

theorem cmath52 : Statement .cmath52 :=
  fun _ => ⟨rfl, rfl⟩

theorem cmath53 : Statement .cmath53 :=
  fun _ => ⟨rfl, rfl⟩

theorem cmath54 : Statement .cmath54 :=
  fun _ => ⟨rfl, rfl⟩

theorem cmath55 : Statement .cmath55 :=
  fun _ => ⟨rfl, rfl⟩

theorem cmath56 : Statement .cmath56 :=
  fun _ => ⟨rfl, rfl⟩

theorem cmath57 : Statement .cmath57 :=
  fun _ => ⟨rfl, rfl⟩

theorem cmath58 : Statement .cmath58 :=
  fun _ => ⟨rfl, rfl⟩

theorem cmath59 : Statement .cmath59 :=
  fun _ => ⟨rfl, rfl⟩

theorem cmath5A : Statement .cmath5A :=
  fun _ => ⟨rfl, rfl⟩

theorem cmath5B : Statement .cmath5B :=
  fun _ => ⟨rfl, rfl⟩

theorem cmath5C : Statement .cmath5C :=
  fun _ => ⟨rfl, rfl⟩

theorem cmath5D : Statement .cmath5D :=
  fun _ => ⟨rfl, rfl⟩

theorem cmath5E : Statement .cmath5E :=
  fun _ => ⟨rfl, rfl⟩

theorem cmath5F : Statement .cmath5F :=
  fun _ => ⟨rfl, rfl⟩

theorem cmath60 : Statement .cmath60 :=
  fun _ => ⟨rfl, rfl⟩

theorem cmath61 : Statement .cmath61 :=
  fun _ => ⟨rfl, rfl⟩

theorem cmath62 : Statement .cmath62 :=
  fun _ => ⟨rfl, rfl⟩

theorem cmath63 : Statement .cmath63 :=
  fun _ => ⟨rfl, rfl⟩

theorem cmath64 : Statement .cmath64 :=
  fun _ => ⟨rfl, rfl⟩

theorem cmath65 : Statement .cmath65 :=
  fun _ => ⟨rfl, rfl⟩

theorem cmath66 : Statement .cmath66 :=
  fun _ => ⟨rfl, rfl⟩

theorem cmath67 : Statement .cmath67 :=
  fun _ => ⟨rfl, rfl⟩

theorem cmath68 : Statement .cmath68 :=
  fun _ => ⟨rfl, rfl⟩

theorem cmath69 : Statement .cmath69 :=
  fun _ => ⟨rfl, rfl⟩

theorem cmath6A : Statement .cmath6A :=
  fun _ => ⟨rfl, rfl⟩

theorem cmath6B : Statement .cmath6B :=
  fun _ => ⟨rfl, rfl⟩

theorem cmath6C : Statement .cmath6C :=
  fun _ => ⟨rfl, rfl⟩

theorem cmath6D : Statement .cmath6D :=
  fun _ => ⟨rfl, rfl⟩

theorem cmath6E : Statement .cmath6E :=
  fun _ => ⟨rfl, rfl⟩

theorem cmath6F : Statement .cmath6F :=
  fun _ => ⟨rfl, rfl⟩

theorem cmath70 : Statement .cmath70 :=
  fun _ => ⟨rfl, rfl⟩

theorem cmath71 : Statement .cmath71 :=
  fun _ => ⟨rfl, rfl⟩

theorem cmath72 : Statement .cmath72 :=
  fun _ => ⟨rfl, rfl⟩

theorem cmath73 : Statement .cmath73 :=
  fun _ => ⟨rfl, rfl⟩

theorem cmath74 : Statement .cmath74 :=
  fun _ => ⟨rfl, rfl⟩

theorem cmath75 : Statement .cmath75 :=
  fun _ => ⟨rfl, rfl⟩

theorem cmath76 : Statement .cmath76 :=
  fun _ => ⟨rfl, rfl⟩

theorem cmath77 : Statement .cmath77 :=
  fun _ => ⟨rfl, rfl⟩

theorem cmath78 : Statement .cmath78 :=
  fun _ => ⟨rfl, rfl⟩

theorem cmath79 : Statement .cmath79 :=
  fun _ => ⟨rfl, rfl⟩

theorem cmath7A : Statement .cmath7A :=
  fun _ => ⟨rfl, rfl⟩

theorem cmath7B : Statement .cmath7B :=
  fun _ => ⟨rfl, rfl⟩

theorem cmath7C : Statement .cmath7C :=
  fun _ => ⟨rfl, rfl⟩

theorem cmath7D : Statement .cmath7D :=
  fun _ => ⟨rfl, rfl⟩

theorem cmath7E : Statement .cmath7E :=
  fun _ => ⟨rfl, rfl⟩

theorem cmath7F : Statement .cmath7F :=
  fun _ => ⟨rfl, rfl⟩

theorem cmath80 : Statement .cmath80 :=
  fun _ => ⟨rfl, rfl⟩

theorem cmath81 : Statement .cmath81 :=
  fun _ => ⟨rfl, rfl⟩

theorem cmath82 : Statement .cmath82 :=
  fun _ => ⟨rfl, rfl⟩

theorem cmath83 : Statement .cmath83 :=
  fun _ => ⟨rfl, rfl⟩

theorem cmath84 : Statement .cmath84 :=
  fun _ => ⟨rfl, rfl⟩

theorem cmath85 : Statement .cmath85 :=
  fun _ => ⟨rfl, rfl⟩

theorem cmath86 : Statement .cmath86 :=
  fun _ => ⟨rfl, rfl⟩

theorem cmath87 : Statement .cmath87 :=
  fun _ => ⟨rfl, rfl⟩

theorem cmath88 : Statement .cmath88 :=
  fun _ => ⟨rfl, rfl⟩

theorem cmath89 : Statement .cmath89 :=
  fun _ => ⟨rfl, rfl⟩

theorem cmath8A : Statement .cmath8A :=
  fun _ => ⟨rfl, rfl⟩

theorem cmath8B : Statement .cmath8B :=
  fun _ => ⟨rfl, rfl⟩

theorem cmath8C : Statement .cmath8C :=
  fun _ => ⟨rfl, rfl⟩

theorem cmath8D : Statement .cmath8D :=
  fun _ => ⟨rfl, rfl⟩

theorem cmath8E : Statement .cmath8E :=
  fun _ => ⟨rfl, rfl⟩

theorem cmath8F : Statement .cmath8F :=
  fun _ => ⟨rfl, rfl⟩

theorem cmath90 : Statement .cmath90 :=
  fun _ => ⟨rfl, rfl⟩

theorem cmath91 : Statement .cmath91 :=
  fun _ => ⟨rfl, rfl⟩

theorem cmath92 : Statement .cmath92 :=
  fun _ => ⟨rfl, rfl⟩

theorem cmath93 : Statement .cmath93 :=
  fun _ => ⟨rfl, rfl⟩

theorem cmath94 : Statement .cmath94 :=
  fun _ => ⟨rfl, rfl⟩

theorem cmath95 : Statement .cmath95 :=
  fun _ => ⟨rfl, rfl⟩

theorem cmath96 : Statement .cmath96 :=
  fun _ => ⟨rfl, rfl⟩

theorem cmath97 : Statement .cmath97 :=
  fun _ => ⟨rfl, rfl⟩

theorem cmath98 : Statement .cmath98 :=
  fun _ => ⟨rfl, rfl⟩

theorem cmath99 : Statement .cmath99 :=
  fun _ => ⟨rfl, rfl⟩

theorem cmath9A : Statement .cmath9A :=
  fun _ => ⟨rfl, rfl⟩

theorem cmath9B : Statement .cmath9B :=
  fun _ => ⟨rfl, rfl⟩

theorem cmath9C : Statement .cmath9C :=
  fun _ => ⟨rfl, rfl⟩

theorem cmath9D : Statement .cmath9D :=
  fun _ => ⟨rfl, rfl⟩

theorem cmath9E : Statement .cmath9E :=
  fun _ => ⟨rfl, rfl⟩

theorem cmath9F : Statement .cmath9F :=
  fun _ => ⟨rfl, rfl⟩

theorem cmathA0 : Statement .cmathA0 :=
  fun _ => ⟨rfl, rfl⟩

theorem cmathA1 : Statement .cmathA1 :=
  fun _ => ⟨rfl, rfl⟩

theorem cmathA2 : Statement .cmathA2 :=
  fun _ => ⟨rfl, rfl⟩

theorem cmathA3 : Statement .cmathA3 :=
  fun _ => ⟨rfl, rfl⟩

theorem cmathA4 : Statement .cmathA4 :=
  fun _ => ⟨rfl, rfl⟩

theorem cmathA5 : Statement .cmathA5 :=
  fun _ => ⟨rfl, rfl⟩

theorem cmathA6 : Statement .cmathA6 :=
  fun _ => ⟨rfl, rfl⟩

theorem cmathA7 : Statement .cmathA7 :=
  fun _ => ⟨rfl, rfl⟩

theorem cmathA8 : Statement .cmathA8 :=
  fun _ => ⟨rfl, rfl⟩

theorem cmathA9 : Statement .cmathA9 :=
  fun _ => ⟨rfl, rfl⟩

theorem cmathAA : Statement .cmathAA :=
  fun _ => ⟨rfl, rfl⟩

theorem cmathAB : Statement .cmathAB :=
  fun _ => ⟨rfl, rfl⟩

theorem cmathAC : Statement .cmathAC :=
  fun _ => ⟨rfl, rfl⟩

theorem cmathAD : Statement .cmathAD :=
  fun _ => ⟨rfl, rfl⟩

theorem cmathAE : Statement .cmathAE :=
  fun _ => ⟨rfl, rfl⟩

theorem cmathAF : Statement .cmathAF :=
  fun _ => ⟨rfl, rfl⟩

theorem cmathB0 : Statement .cmathB0 :=
  fun _ => ⟨rfl, rfl⟩

theorem cmathB1 : Statement .cmathB1 :=
  fun _ => ⟨rfl, rfl⟩

theorem cmathB2 : Statement .cmathB2 :=
  fun _ => ⟨rfl, rfl⟩

theorem cmathB3 : Statement .cmathB3 :=
  fun _ => ⟨rfl, rfl⟩

theorem cmathB4 : Statement .cmathB4 :=
  fun _ => ⟨rfl, rfl⟩

theorem cmathB5 : Statement .cmathB5 :=
  fun _ => ⟨rfl, rfl⟩

theorem cmathB6 : Statement .cmathB6 :=
  fun _ => ⟨rfl, rfl⟩

theorem cmathB7 : Statement .cmathB7 :=
  fun _ => ⟨rfl, rfl⟩

theorem cmathB8 : Statement .cmathB8 :=
  fun _ => ⟨rfl, rfl⟩

theorem cmathB9 : Statement .cmathB9 :=
  fun _ => ⟨rfl, rfl⟩

theorem cmathBA : Statement .cmathBA :=
  fun _ => ⟨rfl, rfl⟩

theorem cmathBB : Statement .cmathBB :=
  fun _ => ⟨rfl, rfl⟩

theorem cmathBC : Statement .cmathBC :=
  fun _ => ⟨rfl, rfl⟩

theorem cmathBD : Statement .cmathBD :=
  fun _ => ⟨rfl, rfl⟩

theorem cmathBE : Statement .cmathBE :=
  fun _ => ⟨rfl, rfl⟩

theorem cmathBF : Statement .cmathBF :=
  fun _ => ⟨rfl, rfl⟩

theorem cmathC0 : Statement .cmathC0 :=
  fun _ => ⟨rfl, rfl⟩

theorem cmathC1 : Statement .cmathC1 :=
  fun _ => ⟨rfl, rfl⟩

theorem cmathC2 : Statement .cmathC2 :=
  fun _ => ⟨rfl, rfl⟩

theorem cmathC3 : Statement .cmathC3 :=
  fun _ => ⟨rfl, rfl⟩

theorem cmathC4 : Statement .cmathC4 :=
  fun _ => ⟨rfl, rfl⟩

theorem cmathC5 : Statement .cmathC5 :=
  fun _ => ⟨rfl, rfl⟩

theorem cmathC6 : Statement .cmathC6 :=
  fun _ => ⟨rfl, rfl⟩

theorem cmathC7 : Statement .cmathC7 :=
  fun _ => ⟨rfl, rfl⟩

theorem cmathC8 : Statement .cmathC8 :=
  fun _ => ⟨rfl, rfl⟩

theorem cmathC9 : Statement .cmathC9 :=
  fun _ => ⟨rfl, rfl⟩

theorem cmathCA : Statement .cmathCA :=
  fun _ => ⟨rfl, rfl⟩

theorem cmathCB : Statement .cmathCB :=
  fun _ => ⟨rfl, rfl⟩

theorem cmathCC : Statement .cmathCC :=
  fun _ => ⟨rfl, rfl⟩

theorem cmathCD : Statement .cmathCD :=
  fun _ => ⟨rfl, rfl⟩

theorem cmathCE : Statement .cmathCE :=
  fun _ => ⟨rfl, rfl⟩

theorem cmathCF : Statement .cmathCF :=
  fun _ => ⟨rfl, rfl⟩

theorem cmathD0 : Statement .cmathD0 :=
  fun _ => ⟨rfl, rfl⟩

theorem cmathD1 : Statement .cmathD1 :=
  fun _ => ⟨rfl, rfl⟩

theorem cmathD2 : Statement .cmathD2 :=
  fun _ => ⟨rfl, rfl⟩

theorem cmathD3 : Statement .cmathD3 :=
  fun _ => ⟨rfl, rfl⟩

theorem cmathD4 : Statement .cmathD4 :=
  fun _ => ⟨rfl, rfl⟩

theorem cmathD5 : Statement .cmathD5 :=
  fun _ => ⟨rfl, rfl⟩

theorem cmathD6 : Statement .cmathD6 :=
  fun _ => ⟨rfl, rfl⟩

theorem cmathD7 : Statement .cmathD7 :=
  fun _ => ⟨rfl, rfl⟩

theorem cmathD8 : Statement .cmathD8 :=
  fun _ => ⟨rfl, rfl⟩

theorem cmathD9 : Statement .cmathD9 :=
  fun _ => ⟨rfl, rfl⟩

theorem cmathDA : Statement .cmathDA :=
  fun _ => ⟨rfl, rfl⟩

theorem cmathDB : Statement .cmathDB :=
  fun _ => ⟨rfl, rfl⟩

theorem cmathDC : Statement .cmathDC :=
  fun _ => ⟨rfl, rfl⟩

theorem cmathDD : Statement .cmathDD :=
  fun _ => ⟨rfl, rfl⟩

theorem cmathDE : Statement .cmathDE :=
  fun _ => ⟨rfl, rfl⟩

theorem cmathDF : Statement .cmathDF :=
  fun _ => ⟨rfl, rfl⟩

theorem cmathE0 : Statement .cmathE0 :=
  fun _ => ⟨rfl, rfl⟩

theorem cmathE1 : Statement .cmathE1 :=
  fun _ => ⟨rfl, rfl⟩

theorem cmathE2 : Statement .cmathE2 :=
  fun _ => ⟨rfl, rfl⟩

theorem cmathE3 : Statement .cmathE3 :=
  fun _ => ⟨rfl, rfl⟩

theorem cmathE4 : Statement .cmathE4 :=
  fun _ => ⟨rfl, rfl⟩

theorem cmathE5 : Statement .cmathE5 :=
  fun _ => ⟨rfl, rfl⟩

theorem cmathE6 : Statement .cmathE6 :=
  fun _ => ⟨rfl, rfl⟩

theorem cmathE7 : Statement .cmathE7 :=
  fun _ => ⟨rfl, rfl⟩

theorem cmathE8 : Statement .cmathE8 :=
  fun _ => ⟨rfl, rfl⟩

theorem cmathE9 : Statement .cmathE9 :=
  fun _ => ⟨rfl, rfl⟩

theorem cmathEA : Statement .cmathEA :=
  fun _ => ⟨rfl, rfl⟩

theorem cmathEB : Statement .cmathEB :=
  fun _ => ⟨rfl, rfl⟩

theorem cmathEC : Statement .cmathEC :=
  fun _ => ⟨rfl, rfl⟩

theorem cmathED : Statement .cmathED :=
  fun _ => ⟨rfl, rfl⟩

theorem cmathEE : Statement .cmathEE :=
  fun _ => ⟨rfl, rfl⟩

theorem cmathEF : Statement .cmathEF :=
  fun _ => ⟨rfl, rfl⟩

theorem cmathF0 : Statement .cmathF0 :=
  fun _ => ⟨rfl, rfl⟩

theorem cmathF1 : Statement .cmathF1 :=
  fun _ => ⟨rfl, rfl⟩

theorem cmathF2 : Statement .cmathF2 :=
  fun _ => ⟨rfl, rfl⟩

theorem cmathF3 : Statement .cmathF3 :=
  fun _ => ⟨rfl, rfl⟩

theorem cmathF4 : Statement .cmathF4 :=
  fun _ => ⟨rfl, rfl⟩

theorem cmathF5 : Statement .cmathF5 :=
  fun _ => ⟨rfl, rfl⟩

theorem cmathF6 : Statement .cmathF6 :=
  fun _ => ⟨rfl, rfl⟩

theorem cmathF7 : Statement .cmathF7 :=
  fun _ => ⟨rfl, rfl⟩

theorem cmathF8 : Statement .cmathF8 :=
  fun _ => ⟨rfl, rfl⟩

theorem cmathF9 : Statement .cmathF9 :=
  fun _ => ⟨rfl, rfl⟩

theorem cmathFA : Statement .cmathFA :=
  fun _ => ⟨rfl, rfl⟩

theorem cmathFB : Statement .cmathFB :=
  fun _ => ⟨rfl, rfl⟩

theorem cmathFC : Statement .cmathFC :=
  fun _ => ⟨rfl, rfl⟩

theorem cmathFD : Statement .cmathFD :=
  fun _ => ⟨rfl, rfl⟩

theorem cmathFE : Statement .cmathFE :=
  fun _ => ⟨rfl, rfl⟩

theorem cmathFF : Statement .cmathFF :=
  fun _ => ⟨rfl, rfl⟩

theorem winnib0 : Statement .winnib0 :=
  fun _ => ⟨rfl, rfl⟩

theorem winnib1 : Statement .winnib1 :=
  fun _ => ⟨rfl, rfl⟩

theorem winnib2 : Statement .winnib2 :=
  fun _ => ⟨rfl, rfl⟩

theorem winnib3 : Statement .winnib3 :=
  fun _ => ⟨rfl, rfl⟩

theorem winnib4 : Statement .winnib4 :=
  fun _ => ⟨rfl, rfl⟩

theorem winnib5 : Statement .winnib5 :=
  fun _ => ⟨rfl, rfl⟩

theorem winnib6 : Statement .winnib6 :=
  fun _ => ⟨rfl, rfl⟩

theorem winnib7 : Statement .winnib7 :=
  fun _ => ⟨rfl, rfl⟩

theorem winnib8 : Statement .winnib8 :=
  fun _ => ⟨rfl, rfl⟩

theorem winnib9 : Statement .winnib9 :=
  fun _ => ⟨rfl, rfl⟩

theorem winnibA : Statement .winnibA :=
  fun _ => ⟨rfl, rfl⟩

theorem winnibB : Statement .winnibB :=
  fun _ => ⟨rfl, rfl⟩

theorem winnibC : Statement .winnibC :=
  fun _ => ⟨rfl, rfl⟩

theorem winnibD : Statement .winnibD :=
  fun _ => ⟨rfl, rfl⟩

theorem winnibE : Statement .winnibE :=
  fun _ => ⟨rfl, rfl⟩

theorem winnibF : Statement .winnibF :=
  fun _ => ⟨rfl, rfl⟩

end Sys2Proof.Laws.EncodesItsRow
end

