-- ==== Sys2Proof/Tests/Slice0.lean ====
section
/-!
SUPPORT. The model's own tests: ill-formed terms are refused, words written from the encodings of `30_encoding.md` decode, single
steps agree with `95_test_vectors.md` and the rules' own examples, and the hypotheses of every statement are met somewhere. The
source of each expected value stands beside it.
-/

namespace Sys2Proof.Machine

set_option Elab.async false

/-! ### WellFormed: an ill-formed term for each check -/

theorem test_wf_refuses_hdmaRsvd21 : (Instr.hdmaRsvd21 20 0).wf = false ∧ (Instr.hdmaRsvd21 22 0).wf = false := by decide

theorem test_wf_refuses_hdmaRsvd22 : (Instr.hdmaRsvd22 21 0).wf = false ∧ (Instr.hdmaRsvd22 24 0).wf = false := by decide

theorem test_wf_refuses_hdmaRsvd24 : (Instr.hdmaRsvd24 23 0).wf = false ∧ (Instr.hdmaRsvd24 32 0).wf = false := by decide

theorem test_wf_refuses_hdmaRsvd32 : (Instr.hdmaRsvd32 31 0).wf = false ∧ (Instr.hdmaRsvd32 64 0).wf = false := by decide

theorem test_wf_refuses_hdmaRsvd64 : (Instr.hdmaRsvd64 63 0).wf = false ∧ (Instr.hdmaRsvd64 128 0).wf = false := by decide

theorem test_wf_refuses_hdmaRsvd128 : (Instr.hdmaRsvd128 127 0).wf = false ∧ (Instr.hdmaRsvd128 256 0).wf = false := by decide

theorem test_wf_refuses_hdmaRsvd256 : (Instr.hdmaRsvd256 255 0).wf = false ∧ (Instr.hdmaRsvd256 512 0).wf = false := by decide

theorem test_wf_refuses_hdmaRsvd512 : (Instr.hdmaRsvd512 511 0).wf = false ∧ (Instr.hdmaRsvd512 1024 0).wf = false := by decide

theorem test_wf_refuses_hdmaRsvd1024 : (Instr.hdmaRsvd1024 1023 0).wf = false ∧ (Instr.hdmaRsvd1024 2048 0).wf = false := by decide

theorem test_wf_refuses_hdmaRsvd2048 : (Instr.hdmaRsvd2048 2047 0).wf = false ∧ (Instr.hdmaRsvd2048 4096 0).wf = false := by decide

theorem test_wf_refuses_hdmaRsvd4096 : (Instr.hdmaRsvd4096 4095 0).wf = false ∧ (Instr.hdmaRsvd4096 8192 0).wf = false := by decide

theorem test_wf_refuses_hdmaRsvd8192 : (Instr.hdmaRsvd8192 8191 0).wf = false ∧ (Instr.hdmaRsvd8192 16384 0).wf = false := by decide

theorem test_wf_refuses_hdmaRsvd16384 : (Instr.hdmaRsvd16384 16383 0).wf = false ∧ (Instr.hdmaRsvd16384 32768 0).wf = false := by decide

theorem test_wf_refuses_hdmaRsvd32768 : (Instr.hdmaRsvd32768 32767 0).wf = false ∧ (Instr.hdmaRsvd32768 0 0).wf = false := by decide

theorem test_wf_accepts_the_blocks_ends : ∀ i ∈ [Instr.hdmaRsvd21 21 0, .hdmaRsvd22 22 0, .hdmaRsvd22 23 0, .hdmaRsvd32768 0x8000 0,
    .hdmaRsvd32768 0xFFFF 0xFFFF, .hdmaNop 0xFFFF, .render 0xFFFF], i.wf = true := by decide

/-! ### Decoding: the words of R103, R104, R111 to R114 and R119 -/

/-- One word of every family, written bit by bit: the tag in bits 15:0 and the value in bits 31:16 (R101), the key bits of R111
to R114. -/
theorem test_decode_bit_by_bit :
    decode (.hdma 0b0000000000100000_0000000000000011#32) = .ok (.hdmaWWin1Left 32) ∧
    decode (.hdma 0b0000000000000000_0000000000010100#32) = .ok (.hdmaDisable 0) ∧
    decode (.hdma 0b0001001000110100_1111111111111111#32) = .ok (.hdmaRsvd32768 0xFFFF 0x1234) ∧
    decode (.mainKey 0b11_000101#8) = .ok .scan05 ∧
    decode (.sprKey 7 0b11_1011_01#8) = .ok (.sprblit11 7) ∧
    decode (.cmathKey 0b10010000#8) = .ok .cmath90 ∧
    decode (.winNib 0b1100#8) = .ok .winnibC ∧
    decode (.hostWrite 0b100011#6 0b0000000000000111#16) = .ok (.render 7) ∧
    decode (.hostWrite 0b100000#6 0b0000000000000001#16) = .ok (.blank 1) := by decide

/-- Every tag of R103, with the value 0xA5C3. -/
theorem test_decode_hdma_commands : ∀ p ∈ [
    (0xA5C30000#32, Instr.hdmaNop 0xA5C3),
    (0xA5C30001#32, Instr.hdmaWMainColour 0xA5C3),
    (0xA5C30002#32, Instr.hdmaWSubColour 0xA5C3),
    (0xA5C30003#32, Instr.hdmaWWin1Left 0xA5C3),
    (0xA5C30004#32, Instr.hdmaWWin1Right 0xA5C3),
    (0xA5C30005#32, Instr.hdmaWWin2Left 0xA5C3),
    (0xA5C30006#32, Instr.hdmaWWin2Right 0xA5C3),
    (0xA5C30007#32, Instr.hdmaWBgcolWindows 0xA5C3),
    (0xA5C30008#32, Instr.hdmaWMainFlags 0xA5C3),
    (0xA5C30009#32, Instr.hdmaWCmathFade 0xA5C3),
    (0xA5C3000A#32, Instr.hdmaWCmathFlags 0xA5C3),
    (0xA5C3000B#32, Instr.hdmaWBg0X 0xA5C3),
    (0xA5C3000C#32, Instr.hdmaWBg0Y 0xA5C3),
    (0xA5C3000D#32, Instr.hdmaWBg0Windows 0xA5C3),
    (0xA5C3000E#32, Instr.hdmaWBg0Flags 0xA5C3),
    (0xA5C3000F#32, Instr.hdmaWBg1X 0xA5C3),
    (0xA5C30010#32, Instr.hdmaWBg1Y 0xA5C3),
    (0xA5C30011#32, Instr.hdmaWBg1Windows 0xA5C3),
    (0xA5C30012#32, Instr.hdmaWBg1Flags 0xA5C3),
    (0xA5C30013#32, Instr.hdmaWHdmaEnable 0xA5C3),
    (0xA5C30014#32, Instr.hdmaDisable 0xA5C3)],
    decode (.hdma p.1) = .ok p.2 := by decide +kernel

/-- The lowest and the highest tag of every reserved block of R121. -/
theorem test_decode_hdma_reserved : ∀ p ∈ [
    (0x12340015#32, Instr.hdmaRsvd21 0x0015 0x1234),
    (0x12340016#32, Instr.hdmaRsvd22 0x0016 0x1234),
    (0x12340017#32, Instr.hdmaRsvd22 0x0017 0x1234),
    (0x12340018#32, Instr.hdmaRsvd24 0x0018 0x1234),
    (0x1234001F#32, Instr.hdmaRsvd24 0x001F 0x1234),
    (0x12340020#32, Instr.hdmaRsvd32 0x0020 0x1234),
    (0x1234003F#32, Instr.hdmaRsvd32 0x003F 0x1234),
    (0x12340040#32, Instr.hdmaRsvd64 0x0040 0x1234),
    (0x1234007F#32, Instr.hdmaRsvd64 0x007F 0x1234),
    (0x12340080#32, Instr.hdmaRsvd128 0x0080 0x1234),
    (0x123400FF#32, Instr.hdmaRsvd128 0x00FF 0x1234),
    (0x12340100#32, Instr.hdmaRsvd256 0x0100 0x1234),
    (0x123401FF#32, Instr.hdmaRsvd256 0x01FF 0x1234),
    (0x12340200#32, Instr.hdmaRsvd512 0x0200 0x1234),
    (0x123403FF#32, Instr.hdmaRsvd512 0x03FF 0x1234),
    (0x12340400#32, Instr.hdmaRsvd1024 0x0400 0x1234),
    (0x123407FF#32, Instr.hdmaRsvd1024 0x07FF 0x1234),
    (0x12340800#32, Instr.hdmaRsvd2048 0x0800 0x1234),
    (0x12340FFF#32, Instr.hdmaRsvd2048 0x0FFF 0x1234),
    (0x12341000#32, Instr.hdmaRsvd4096 0x1000 0x1234),
    (0x12341FFF#32, Instr.hdmaRsvd4096 0x1FFF 0x1234),
    (0x12342000#32, Instr.hdmaRsvd8192 0x2000 0x1234),
    (0x12343FFF#32, Instr.hdmaRsvd8192 0x3FFF 0x1234),
    (0x12344000#32, Instr.hdmaRsvd16384 0x4000 0x1234),
    (0x12347FFF#32, Instr.hdmaRsvd16384 0x7FFF 0x1234),
    (0x12348000#32, Instr.hdmaRsvd32768 0x8000 0x1234),
    (0x1234FFFF#32, Instr.hdmaRsvd32768 0xFFFF 0x1234)],
    decode (.hdma p.1) = .ok p.2 := by decide +kernel

/-- The 64 keys of R111; odd ones with bits 7:6 of x[8] set, which are ignored. -/
theorem test_decode_scan : ∀ p ∈ [
    (0x00#8, Instr.scan00), (0xC1#8, Instr.scan01), (0x02#8, Instr.scan02), (0xC3#8, Instr.scan03), (0x04#8, Instr.scan04),
    (0xC5#8, Instr.scan05), (0x06#8, Instr.scan06), (0xC7#8, Instr.scan07), (0x08#8, Instr.scan08), (0xC9#8, Instr.scan09),
    (0x0A#8, Instr.scan0A), (0xCB#8, Instr.scan0B), (0x0C#8, Instr.scan0C), (0xCD#8, Instr.scan0D), (0x0E#8, Instr.scan0E),
    (0xCF#8, Instr.scan0F), (0x10#8, Instr.scan10), (0xD1#8, Instr.scan11), (0x12#8, Instr.scan12), (0xD3#8, Instr.scan13),
    (0x14#8, Instr.scan14), (0xD5#8, Instr.scan15), (0x16#8, Instr.scan16), (0xD7#8, Instr.scan17), (0x18#8, Instr.scan18),
    (0xD9#8, Instr.scan19), (0x1A#8, Instr.scan1A), (0xDB#8, Instr.scan1B), (0x1C#8, Instr.scan1C), (0xDD#8, Instr.scan1D),
    (0x1E#8, Instr.scan1E), (0xDF#8, Instr.scan1F), (0x20#8, Instr.scan20), (0xE1#8, Instr.scan21), (0x22#8, Instr.scan22),
    (0xE3#8, Instr.scan23), (0x24#8, Instr.scan24), (0xE5#8, Instr.scan25), (0x26#8, Instr.scan26), (0xE7#8, Instr.scan27),
    (0x28#8, Instr.scan28), (0xE9#8, Instr.scan29), (0x2A#8, Instr.scan2A), (0xEB#8, Instr.scan2B), (0x2C#8, Instr.scan2C),
    (0xED#8, Instr.scan2D), (0x2E#8, Instr.scan2E), (0xEF#8, Instr.scan2F), (0x30#8, Instr.scan30), (0xF1#8, Instr.scan31),
    (0x32#8, Instr.scan32), (0xF3#8, Instr.scan33), (0x34#8, Instr.scan34), (0xF5#8, Instr.scan35), (0x36#8, Instr.scan36),
    (0xF7#8, Instr.scan37), (0x38#8, Instr.scan38), (0xF9#8, Instr.scan39), (0x3A#8, Instr.scan3A), (0xFB#8, Instr.scan3B),
    (0x3C#8, Instr.scan3C), (0xFD#8, Instr.scan3D), (0x3E#8, Instr.scan3E), (0xFF#8, Instr.scan3F)],
    decode (.mainKey p.1) = .ok p.2 := by decide +kernel

/-- The 16 keys of R259, as `flags & 0x3C`; odd ones with the ignored flags bits set. -/
theorem test_decode_sprblit : ∀ p ∈ [
    (0x00#8, Instr.sprblit0 0xFE), (0xC7#8, Instr.sprblit1 0xFE), (0x08#8, Instr.sprblit2 0xFE), (0xCF#8, Instr.sprblit3 0xFE),
    (0x10#8, Instr.sprblit4 0xFE), (0xD7#8, Instr.sprblit5 0xFE), (0x18#8, Instr.sprblit6 0xFE), (0xDF#8, Instr.sprblit7 0xFE),
    (0x20#8, Instr.sprblit8 0xFE), (0xE7#8, Instr.sprblit9 0xFE), (0x28#8, Instr.sprblit10 0xFE), (0xEF#8, Instr.sprblit11 0xFE),
    (0x30#8, Instr.sprblit12 0xFE), (0xF7#8, Instr.sprblit13 0xFE), (0x38#8, Instr.sprblit14 0xFE), (0xFF#8, Instr.sprblit15 0xFE)],
    decode (.sprKey 0xFE p.1) = .ok p.2 := by decide +kernel

/-- Keys 0x00 to 0x3F of R112. -/
theorem test_decode_cmath_0 : ∀ p ∈ [
    (0x00#8, Instr.cmath00), (0x01#8, Instr.cmath01), (0x02#8, Instr.cmath02), (0x03#8, Instr.cmath03), (0x04#8, Instr.cmath04),
    (0x05#8, Instr.cmath05), (0x06#8, Instr.cmath06), (0x07#8, Instr.cmath07), (0x08#8, Instr.cmath08), (0x09#8, Instr.cmath09),
    (0x0A#8, Instr.cmath0A), (0x0B#8, Instr.cmath0B), (0x0C#8, Instr.cmath0C), (0x0D#8, Instr.cmath0D), (0x0E#8, Instr.cmath0E),
    (0x0F#8, Instr.cmath0F), (0x10#8, Instr.cmath10), (0x11#8, Instr.cmath11), (0x12#8, Instr.cmath12), (0x13#8, Instr.cmath13),
    (0x14#8, Instr.cmath14), (0x15#8, Instr.cmath15), (0x16#8, Instr.cmath16), (0x17#8, Instr.cmath17), (0x18#8, Instr.cmath18),
    (0x19#8, Instr.cmath19), (0x1A#8, Instr.cmath1A), (0x1B#8, Instr.cmath1B), (0x1C#8, Instr.cmath1C), (0x1D#8, Instr.cmath1D),
    (0x1E#8, Instr.cmath1E), (0x1F#8, Instr.cmath1F), (0x20#8, Instr.cmath20), (0x21#8, Instr.cmath21), (0x22#8, Instr.cmath22),
    (0x23#8, Instr.cmath23), (0x24#8, Instr.cmath24), (0x25#8, Instr.cmath25), (0x26#8, Instr.cmath26), (0x27#8, Instr.cmath27),
    (0x28#8, Instr.cmath28), (0x29#8, Instr.cmath29), (0x2A#8, Instr.cmath2A), (0x2B#8, Instr.cmath2B), (0x2C#8, Instr.cmath2C),
    (0x2D#8, Instr.cmath2D), (0x2E#8, Instr.cmath2E), (0x2F#8, Instr.cmath2F), (0x30#8, Instr.cmath30), (0x31#8, Instr.cmath31),
    (0x32#8, Instr.cmath32), (0x33#8, Instr.cmath33), (0x34#8, Instr.cmath34), (0x35#8, Instr.cmath35), (0x36#8, Instr.cmath36),
    (0x37#8, Instr.cmath37), (0x38#8, Instr.cmath38), (0x39#8, Instr.cmath39), (0x3A#8, Instr.cmath3A), (0x3B#8, Instr.cmath3B),
    (0x3C#8, Instr.cmath3C), (0x3D#8, Instr.cmath3D), (0x3E#8, Instr.cmath3E), (0x3F#8, Instr.cmath3F)],
    decode (.cmathKey p.1) = .ok p.2 := by decide +kernel

/-- Keys 0x40 to 0x7F of R112. -/
theorem test_decode_cmath_1 : ∀ p ∈ [
    (0x40#8, Instr.cmath40), (0x41#8, Instr.cmath41), (0x42#8, Instr.cmath42), (0x43#8, Instr.cmath43), (0x44#8, Instr.cmath44),
    (0x45#8, Instr.cmath45), (0x46#8, Instr.cmath46), (0x47#8, Instr.cmath47), (0x48#8, Instr.cmath48), (0x49#8, Instr.cmath49),
    (0x4A#8, Instr.cmath4A), (0x4B#8, Instr.cmath4B), (0x4C#8, Instr.cmath4C), (0x4D#8, Instr.cmath4D), (0x4E#8, Instr.cmath4E),
    (0x4F#8, Instr.cmath4F), (0x50#8, Instr.cmath50), (0x51#8, Instr.cmath51), (0x52#8, Instr.cmath52), (0x53#8, Instr.cmath53),
    (0x54#8, Instr.cmath54), (0x55#8, Instr.cmath55), (0x56#8, Instr.cmath56), (0x57#8, Instr.cmath57), (0x58#8, Instr.cmath58),
    (0x59#8, Instr.cmath59), (0x5A#8, Instr.cmath5A), (0x5B#8, Instr.cmath5B), (0x5C#8, Instr.cmath5C), (0x5D#8, Instr.cmath5D),
    (0x5E#8, Instr.cmath5E), (0x5F#8, Instr.cmath5F), (0x60#8, Instr.cmath60), (0x61#8, Instr.cmath61), (0x62#8, Instr.cmath62),
    (0x63#8, Instr.cmath63), (0x64#8, Instr.cmath64), (0x65#8, Instr.cmath65), (0x66#8, Instr.cmath66), (0x67#8, Instr.cmath67),
    (0x68#8, Instr.cmath68), (0x69#8, Instr.cmath69), (0x6A#8, Instr.cmath6A), (0x6B#8, Instr.cmath6B), (0x6C#8, Instr.cmath6C),
    (0x6D#8, Instr.cmath6D), (0x6E#8, Instr.cmath6E), (0x6F#8, Instr.cmath6F), (0x70#8, Instr.cmath70), (0x71#8, Instr.cmath71),
    (0x72#8, Instr.cmath72), (0x73#8, Instr.cmath73), (0x74#8, Instr.cmath74), (0x75#8, Instr.cmath75), (0x76#8, Instr.cmath76),
    (0x77#8, Instr.cmath77), (0x78#8, Instr.cmath78), (0x79#8, Instr.cmath79), (0x7A#8, Instr.cmath7A), (0x7B#8, Instr.cmath7B),
    (0x7C#8, Instr.cmath7C), (0x7D#8, Instr.cmath7D), (0x7E#8, Instr.cmath7E), (0x7F#8, Instr.cmath7F)],
    decode (.cmathKey p.1) = .ok p.2 := by decide +kernel

/-- Keys 0x80 to 0xBF of R112. -/
theorem test_decode_cmath_2 : ∀ p ∈ [
    (0x80#8, Instr.cmath80), (0x81#8, Instr.cmath81), (0x82#8, Instr.cmath82), (0x83#8, Instr.cmath83), (0x84#8, Instr.cmath84),
    (0x85#8, Instr.cmath85), (0x86#8, Instr.cmath86), (0x87#8, Instr.cmath87), (0x88#8, Instr.cmath88), (0x89#8, Instr.cmath89),
    (0x8A#8, Instr.cmath8A), (0x8B#8, Instr.cmath8B), (0x8C#8, Instr.cmath8C), (0x8D#8, Instr.cmath8D), (0x8E#8, Instr.cmath8E),
    (0x8F#8, Instr.cmath8F), (0x90#8, Instr.cmath90), (0x91#8, Instr.cmath91), (0x92#8, Instr.cmath92), (0x93#8, Instr.cmath93),
    (0x94#8, Instr.cmath94), (0x95#8, Instr.cmath95), (0x96#8, Instr.cmath96), (0x97#8, Instr.cmath97), (0x98#8, Instr.cmath98),
    (0x99#8, Instr.cmath99), (0x9A#8, Instr.cmath9A), (0x9B#8, Instr.cmath9B), (0x9C#8, Instr.cmath9C), (0x9D#8, Instr.cmath9D),
    (0x9E#8, Instr.cmath9E), (0x9F#8, Instr.cmath9F), (0xA0#8, Instr.cmathA0), (0xA1#8, Instr.cmathA1), (0xA2#8, Instr.cmathA2),
    (0xA3#8, Instr.cmathA3), (0xA4#8, Instr.cmathA4), (0xA5#8, Instr.cmathA5), (0xA6#8, Instr.cmathA6), (0xA7#8, Instr.cmathA7),
    (0xA8#8, Instr.cmathA8), (0xA9#8, Instr.cmathA9), (0xAA#8, Instr.cmathAA), (0xAB#8, Instr.cmathAB), (0xAC#8, Instr.cmathAC),
    (0xAD#8, Instr.cmathAD), (0xAE#8, Instr.cmathAE), (0xAF#8, Instr.cmathAF), (0xB0#8, Instr.cmathB0), (0xB1#8, Instr.cmathB1),
    (0xB2#8, Instr.cmathB2), (0xB3#8, Instr.cmathB3), (0xB4#8, Instr.cmathB4), (0xB5#8, Instr.cmathB5), (0xB6#8, Instr.cmathB6),
    (0xB7#8, Instr.cmathB7), (0xB8#8, Instr.cmathB8), (0xB9#8, Instr.cmathB9), (0xBA#8, Instr.cmathBA), (0xBB#8, Instr.cmathBB),
    (0xBC#8, Instr.cmathBC), (0xBD#8, Instr.cmathBD), (0xBE#8, Instr.cmathBE), (0xBF#8, Instr.cmathBF)],
    decode (.cmathKey p.1) = .ok p.2 := by decide +kernel

/-- Keys 0xC0 to 0xFF of R112. -/
theorem test_decode_cmath_3 : ∀ p ∈ [
    (0xC0#8, Instr.cmathC0), (0xC1#8, Instr.cmathC1), (0xC2#8, Instr.cmathC2), (0xC3#8, Instr.cmathC3), (0xC4#8, Instr.cmathC4),
    (0xC5#8, Instr.cmathC5), (0xC6#8, Instr.cmathC6), (0xC7#8, Instr.cmathC7), (0xC8#8, Instr.cmathC8), (0xC9#8, Instr.cmathC9),
    (0xCA#8, Instr.cmathCA), (0xCB#8, Instr.cmathCB), (0xCC#8, Instr.cmathCC), (0xCD#8, Instr.cmathCD), (0xCE#8, Instr.cmathCE),
    (0xCF#8, Instr.cmathCF), (0xD0#8, Instr.cmathD0), (0xD1#8, Instr.cmathD1), (0xD2#8, Instr.cmathD2), (0xD3#8, Instr.cmathD3),
    (0xD4#8, Instr.cmathD4), (0xD5#8, Instr.cmathD5), (0xD6#8, Instr.cmathD6), (0xD7#8, Instr.cmathD7), (0xD8#8, Instr.cmathD8),
    (0xD9#8, Instr.cmathD9), (0xDA#8, Instr.cmathDA), (0xDB#8, Instr.cmathDB), (0xDC#8, Instr.cmathDC), (0xDD#8, Instr.cmathDD),
    (0xDE#8, Instr.cmathDE), (0xDF#8, Instr.cmathDF), (0xE0#8, Instr.cmathE0), (0xE1#8, Instr.cmathE1), (0xE2#8, Instr.cmathE2),
    (0xE3#8, Instr.cmathE3), (0xE4#8, Instr.cmathE4), (0xE5#8, Instr.cmathE5), (0xE6#8, Instr.cmathE6), (0xE7#8, Instr.cmathE7),
    (0xE8#8, Instr.cmathE8), (0xE9#8, Instr.cmathE9), (0xEA#8, Instr.cmathEA), (0xEB#8, Instr.cmathEB), (0xEC#8, Instr.cmathEC),
    (0xED#8, Instr.cmathED), (0xEE#8, Instr.cmathEE), (0xEF#8, Instr.cmathEF), (0xF0#8, Instr.cmathF0), (0xF1#8, Instr.cmathF1),
    (0xF2#8, Instr.cmathF2), (0xF3#8, Instr.cmathF3), (0xF4#8, Instr.cmathF4), (0xF5#8, Instr.cmathF5), (0xF6#8, Instr.cmathF6),
    (0xF7#8, Instr.cmathF7), (0xF8#8, Instr.cmathF8), (0xF9#8, Instr.cmathF9), (0xFA#8, Instr.cmathFA), (0xFB#8, Instr.cmathFB),
    (0xFC#8, Instr.cmathFC), (0xFD#8, Instr.cmathFD), (0xFE#8, Instr.cmathFE), (0xFF#8, Instr.cmathFF)],
    decode (.cmathKey p.1) = .ok p.2 := by decide +kernel

/-- The 16 nibbles of R114. -/
theorem test_decode_winnib : ∀ p ∈ [
    (0x00#8, Instr.winnib0), (0x01#8, Instr.winnib1), (0x02#8, Instr.winnib2), (0x03#8, Instr.winnib3), (0x04#8, Instr.winnib4),
    (0x05#8, Instr.winnib5), (0x06#8, Instr.winnib6), (0x07#8, Instr.winnib7), (0x08#8, Instr.winnib8), (0x09#8, Instr.winnib9),
    (0x0A#8, Instr.winnibA), (0x0B#8, Instr.winnibB), (0x0C#8, Instr.winnibC), (0x0D#8, Instr.winnibD), (0x0E#8, Instr.winnibE),
    (0x0F#8, Instr.winnibF)],
    decode (.winNib p.1) = .ok p.2 := by decide +kernel

/-- A write to a register that is no command is refused by name (R119). -/
theorem test_decode_refuses_a_plain_register : decode (.hostWrite 33#6 1) = .error (.notACommand 33#6) := by decide

/-- The opcode table's numbering: bit 0 is the least significant bit; the length alone tells the key formats apart (log 1). -/
theorem test_decodeTableWord : decodeTableWord 16 0x14 = some (.hdmaDisable 0) ∧
    decodeTableWord 32 0x00200003 = some (.hdmaWWin1Left 32) ∧ decodeTableWord 8 0x90 = some .cmath90 ∧
    decodeTableWord 6 0x05 = some .scan05 ∧ decodeTableWord 4 0xC = some .winnibC := by decide

/-- The notation's pseudo-instructions have the words of the commands they stand for (R118). -/
theorem test_pseudo : encode pseudoEnd = .hdma 0x00000014 ∧ encode (pseudoEnable 6) = .hdma 0x00060013 ∧
    encode (pseudoScrollX true 1) = .hdma 0x0001000F ∧ encode (pseudoScrollY false 1) = .hdma 0x0001000C := by decide

/-! ### Small states -/

/-- A state whose registers are the reset state's with some changed. -/
def withRegs (f : Regs → Regs) : State := State.reset.setRegs (f State.reset.regs)

/-- The boundaries of the example of R200 and vector W1. -/
def windowState : State :=
  withRegs fun r => { r with win1Left := 10, win1Right := 19, win2Left := 15, win2Right := 29 }

/-- Sprite 0 of vectors B3 and B13 at row 10: 8 by 8 at column 236, windows 0x0F, flags `fl`; atlas row 0 holds 0x0401..0x0403 and
a transparent pixel; both windows are the single column 0, and every lane is region X. -/
def spriteState (x : Half) (fl : Byte) : State :=
  ((((State.reset.setOam (Mem.setHalf storeDefault (Mem.setHalf storeDefault (Mem.setHalf storeDefault (Mem.setHalf storeDefault []
    0 x) 1 10) 2 0x0808) 4 (fl ++ 0x0F#8))).setSprAtlas
      (Mem.setHalf storeDefault (Mem.setHalf storeDefault (Mem.setHalf storeDefault [] 0 0x0401) 1 0x0402) 2 0x0403)).setPc
        ⟨10, 8⟩).setWmask (List.replicate 240 0x88#8))

/-- Background 0 of vectors G1 and G16: map entry 0 is tile 1, whose first pixels are 0x1040 and 0x1041; shown on the main screen in
region X. -/
def bgState (x : Half) : State :=
  (((withRegs fun r => { r with bg0X := x, bg0Windows := 0x08 }).setMap0 (Mem.setHalf storeDefault [] 0 1)).setBgAtlas
    (Mem.setHalf storeDefault (Mem.setHalf storeDefault [] 8 0x1040) 9 0x1041)).setWmask (List.replicate 240 0x88#8)

/-- A render of section 0 in progress, before its first table's turn. -/
def busyState : State := State.reset.setBusy 1#1

/-- The field of the next state, if there is one. -/
def nextField {α : Type} (r : Result) (f : State → α) : Option α :=
  match r with
  | .next s => some (f s)
  | _ => none

/-! ### Single steps -/

/-- R143's example through a fetched entry: x[1] takes the value and `pc` goes on to table 1. -/
theorem test_step_main_colour :
    nextField (step (State.reset.withFetchWord 32 0x801F0001)) (fun s => (s.regs.mainColour, s.pc.tbl)) = some (0x801F#16, 1#4) := by
  decide +kernel

/-- R149's example: bits 15:8 of the value are dropped. -/
theorem test_step_bgcol_windows :
    nextField (step (State.reset.withFetchWord 32 0x12F80007)) (fun s => s.regs.bgcolWindows) = some 0xF8#8 := by decide +kernel

/-- Vector H7: table 3's DISABLE clears bit 3 alone, its value ignored. -/
theorem test_disable_clears_its_own_bit :
    nextField (exec (.hdmaDisable 0xFFFF) ((withRegs fun r => { r with hdmaEnable := 0xFF }).setPc ⟨0, 3⟩)) (fun s => s.regs.hdmaEnable)
      = some 0xF7#8 := by decide +kernel

/-- The per-tag vector of section 2: 0xA5C3 through each of tags 1 to 18. -/
theorem test_write_every_register : ∀ g ∈ List.range 18,
    nextField (exec (hdmaInstr (BitVec.ofNat 16 (g + 1)) 0xA5C3) State.reset) (fun s => s.regs.read (g + 1))
      = some (if g + 1 ∈ [7, 8, 10, 13, 14, 17, 18] then 0x00C3#16 else 0xA5C3#16) := by decide +kernel

/-- Vectors H3 and H4: of two tables that write x[1] the higher wins, and a disabled table is skipped. -/
theorem test_higher_table_wins :
    let s := (busyState.setHdma (Mem.setEntry (Mem.setEntry [] 0 0x11110001) 240 0x22220001)).setRegs
      { State.reset.regs with hdmaEnable := 0x03 }
    nextField (Host.Core.run Sys2Proof.core 1 s) (fun t : State => t.regs.mainColour) = some 0x1111#16 ∧
    nextField (Host.Core.run Sys2Proof.core 2 s) (fun t : State => t.regs.mainColour) = some 0x2222#16 := by decide +kernel

/-- Vector W1 at its boundaries. -/
theorem test_window_mask : ∀ p ∈ [(9, 0x88#8), (10, 0x11#8), (14, 0x11#8), (15, 0x77#8), (19, 0x77#8), (20, 0x22#8), (29, 0x22#8),
    (30, 0x88#8)], (windowMask windowState).laneAt p.1 = p.2 := by decide +kernel

/-- Row 0xC of R206: shown where `in1` equals `in2`. -/
theorem test_winnib_C : ∀ p ∈ [(9, true), (10, false), (15, true), (20, false), (30, true)],
    nextField (exec .winnibC (windowMask windowState)) (fun s => s.select.getD p.1 false) = some p.2 := by decide +kernel

/-- Vectors K6, K7, K17, K18 and K24. -/
theorem test_admit :
    admitted ⟨50, 93, 8, 8, 0, 0, 0xFF, 0x01⟩ 100 = true ∧ admitted ⟨50, 92, 8, 8, 0, 0, 0xFF, 0x01⟩ 100 = false ∧
    admitted ⟨0xFFF9, 100, 8, 8, 0, 0, 0xFF, 0x01⟩ 100 = true ∧ admitted ⟨0xFFF8, 100, 8, 8, 0, 0, 0xFF, 0x01⟩ 100 = false ∧
    admitted ⟨50, 100, 12, 8, 0, 0, 0xFF, 0x01⟩ 100 = false := by decide +kernel

/-- Vector B13: the right clip. The sprite's fourth pixel is transparent here. -/
theorem test_blit_clips : ∀ p ∈ [(235, 0#16), (236, 0x0401#16), (237, 0x0402#16), (238, 0x0403#16), (239, 0#16)],
    nextField (exec (.sprblit0 0) (spriteState 236 0x01)) (fun s => s.mainAt p.1) = some p.2 := by decide +kernel

/-- Vectors B3 and B9: mirrored columns; the marker; a sub nibble of 0 draws nothing on the sub screen. -/
theorem test_blit_flips_and_marks :
    nextField (exec (.sprblit1 0) (spriteState 10 0x05)) (fun s => (s.mainAt 17, s.mainAt 10)) = some (0x0401#16, 0#16) ∧
    nextField (exec (.sprblit4 0) (spriteState 10 0x11)) (fun s => (s.mainAt 10, s.subAt 10)) = some (0x8401#16, 0#16) := by
  decide +kernel

/-- Vector B6's doubling: each pixel twice. -/
theorem test_blit_doubles :
    nextField (exec (.sprblit8 0) (spriteState 10 0x21)) (fun s => (s.mainAt 10, s.mainAt 11, s.mainAt 12)) =
      some (0x0401#16, 0x0401#16, 0x0402#16) := by decide +kernel

/-- Vectors G1 and G5: the scroll moves the field, which wraps modulo 512. -/
theorem test_background :
    (bgRow (bgState 0).background0 (bgState 0)).mainAt 1 = 0x1041#16 ∧
    (bgRow (bgState 0xFFFC).background0 (bgState 0xFFFC)).mainAt 4 = 0x1040#16 ∧
    (bgRow (bgState 0).background0 (bgState 0)).subAt 1 = 0#16 := by decide +kernel

/-- The fallback of S3: with key 0x20 the main colour where BGCOL_WINDOWS shows it, else 0. -/
theorem test_fallback :
    let s := windowMask (withRegs fun r => { r with mainColour := 0x7C1F, bgcolWindows := 0x01, win1Left := 100, win1Right := 139,
                                                    win2Left := 1 })
    (composeLayers 0x20 s).mainAt 99 = 0#16 ∧ (composeLayers 0x20 s).mainAt 100 = 0x7C1F#16 ∧
    (composeLayers 0x00 s).mainAt 99 = 0x7C1F#16 := by decide +kernel

/-- The table of section 7: doubling, halving, adding and fading of one channel. -/
theorem test_blend : blend 0x02 0 9 0 = 18 ∧ blend 0x02 0 16 0 = 31 ∧ blend 0x01 0 31 0 = 15 ∧ blend 0x03 0 16 0 = 15 ∧
    blend 0x1C 0 5 31 = 20 ∧ blend 0x10 0 20 15 = 31 ∧ blend 0x20 0 5 9 = 0 ∧ blend 0x40 64 20 0 = 5 ∧
    blend 0x40 255 31 0 = 30 := by decide +kernel

/-- R270's example and S5: marked pixels are blended, unmarked ones and a clear master bit pass. -/
theorem test_cmath_pixel : cmathPixel 0x90 0 0x8421 0x7FFF = 0xFFFF#16 ∧ cmathPixel 0x90 0 0x0421 0x7FFF = 0x0421#16 ∧
    cmathPixel 0x83 0 0xFFFF 0 = 0xBDEF#16 ∧ cmathPixel 0x7F 0 0xFFFF 0 = 0xFFFF#16 := by decide +kernel

/-- R300 and R48: `RENDER 2`, given as 6 because bits above bit 1 are ignored (R45). -/
theorem test_render_starts :
    nextField (exec (.render 6) State.reset) (fun s => (s.busy, s.pc.row, s.pc.tbl)) = some (1#1, 120#8, 0#4) := by decide +kernel

/-- R322: a launch whose last address, and no other, is not frame-buffer memory is refused, and the same range beyond the region is not
in its way. -/
theorem test_render_needs_its_frame_buffer :
    ({ State.reset with fbAbsent := [⟨14399, 1⟩] }.regionPresent 0 = false) ∧
    ({ State.reset with fbAbsent := [⟨14400, 1⟩] }.regionPresent 0 = true) := by decide +kernel

/-- R71 and R44: an access of x[34] moves 16 bits and leaves the others, the entry above it through a place of its own (log 10). -/
theorem test_fb_base : (State.reset.writeReg 34#6 0x00011234).fbBase = 0x1234 ∧ (State.reset.writeReg 34#6 0x1234).readReg 34#6 = 0x1234 ∧
    withBasePiece 0xABCDEF 0 0x1234 = 0xAB1234 ∧ withBasePiece 0xABCDEF 1 0x12 = 0x12CDEF ∧
    basePiece 0xABCDEF 0 = 0xCDEF ∧ basePiece 0xABCDEF 1 = 0xAB := by decide +kernel

/-- R302: writing 0 clears the tracking, writing 1 keeps it. -/
theorem test_blank :
    nextField (exec (.blank 0) (State.reset.setBlanking 1#1 0b0110#4)) (fun s => (s.forcedBlank, s.blanked)) = some (0#1, 0#4) ∧
    nextField (exec (.blank 3) (State.reset.setBlanking 1#1 0b0110#4)) (fun s => (s.forcedBlank, s.blanked)) = some (1#1, 0b0110#4) := by
  decide +kernel

/-- R301: a section already blanked is left alone. -/
theorem test_forced_blank_once :
    nextField (exec (.render 1) (State.reset.setBlanking 1#1 0b0010#4)) (fun s => (s.busy, s.blanked, s.fb)) =
      some (0#1, 0b0010#4, []) := by decide +kernel

/-- The host's plain accesses: a table entry and a register read back, the read-only BLANKED ignores a write (R43, R71). -/
theorem test_host_port :
    (State.reset.writePlace (.hdma 7 239) 0x12345678).readPlace (.hdma 7 239) = 0x12345678#32 ∧
    (State.reset.writePlace (.oam 255 4) 0x12345678).readPlace (.oam 255 4) = 0x5678#32 ∧
    (State.reset.writeReg 8#6 0x1FF).readReg 8#6 = 0xFF#32 ∧ State.reset.writeReg 33#6 0xF = State.reset := by decide +kernel

/-- Byte 0 of an HDMA entry is the tag's low byte (`20_memory.md` R70). -/
theorem test_entry_bytes : Mem.get? (Mem.setEntry [] 0 0x12345678) 0 = some 0x78#8 ∧
    Mem.get? (Mem.setEntry [] 0 0x12345678) 3 = some 0x12#8 := by decide +kernel
/-! ### Witnesses: each statement's hypotheses are met -/

/-- For `DecodeOfEncodeIsTheInstruction`. -/
theorem test_witness_wellFormed : (Instr.hdmaRsvd22 23 0xFFFF).wf = true ∧ (Instr.sprblit15 0xFF).wf = true := by decide

/-- For `DecoderFollowsTheOpcodeTable`: a word at the end of a block, and one of a key table. -/
theorem test_witness_opcodeTable :
    ((Code.hdma 0xABCD0017).format ≠ .hostWrite ∧ (Instr.hdmaRsvd22 22 0).row.holds (.hdma 0xABCD0017) ∧
      decode (.hdma 0xABCD0017) = .ok (.hdmaRsvd22 23 0xABCD)) ∧
    ((Code.sprKey 9 0xFF).format ≠ .hostWrite ∧ (Instr.sprblit15 0).row.holds (.sprKey 9 0xFF) ∧
      decode (.sprKey 9 0xFF) = .ok (.sprblit15 9)) := by decide +kernel

/-- For `HdmaWriteStoresItsRegisterOnly`, at tags 1 and 19. -/
theorem test_witness_hdmaWrite :
    ((Instr.hdmaWMainColour 5).wf = true ∧ encode (.hdmaWMainColour 5) = .hdma 0x00050001 ∧ 1 ≤ (entryTag 0x00050001).toNat ∧
      (entryTag 0x00050001).toNat ≤ 19) ∧
    ((Instr.hdmaWHdmaEnable 5).wf = true ∧ encode (.hdmaWHdmaEnable 5) = .hdma 0x00050013 ∧ 1 ≤ (entryTag 0x00050013).toNat ∧
      (entryTag 0x00050013).toNat ≤ 19) := by decide +kernel

/-- For `NopAndReservedTagsChangeNothing`, at tags 0, 21 and 65535. -/
theorem test_witness_nopAndReserved :
    ((Instr.hdmaNop 5).wf = true ∧ encode (.hdmaNop 5) = .hdma 0x00050000 ∧ (entryTag 0x00050000).toNat = 0) ∧
    ((Instr.hdmaRsvd21 21 5).wf = true ∧ encode (.hdmaRsvd21 21 5) = .hdma 0x00050015 ∧ 21 ≤ (entryTag 0x00050015).toNat) ∧
    ((Instr.hdmaRsvd32768 0xFFFF 5).wf = true ∧ encode (.hdmaRsvd32768 0xFFFF 5) = .hdma 0x0005FFFF ∧
      21 ≤ (entryTag 0x0005FFFF).toNat) := by decide +kernel

/-- For `EightTurnsAreHdmaApply`, `NineStepsRenderARow` and the second and third clauses of `StepRunsTheDecodedInstruction` below. -/
theorem test_witness_rendering : Rendering busyState ∧ busyState.pc.tbl = 0#4 := ⟨⟨rfl, rfl, rfl⟩, rfl⟩

/-- For `WindowMaskIsTheRegionOfEachColumn`: columns 0, 100, 238 and 239 fall in window 1 alone, both, window 2 alone, neither. -/
theorem test_witness_windowRegions :
    let s := withRegs fun r => { r with win1Left := 0, win1Right := 119, win2Left := 100, win2Right := 238 }
    ∀ p ∈ [(0, true, false), (119, true, true), (238, false, true), (239, false, false)],
      decide (s.regs.win1Left.toInt ≤ ((p.1 : Nat) : Int) ∧ ((p.1 : Nat) : Int) ≤ s.regs.win1Right.toInt) = p.2.1 ∧
      decide (s.regs.win2Left.toInt ≤ ((p.1 : Nat) : Int) ∧ ((p.1 : Nat) : Int) ≤ s.regs.win2Right.toInt) = p.2.2 := by
  decide +kernel

/-- For `WindowNibbleSelectsByItsFormula`, `BlitWritesTheSpritesVisiblePixels`, `ScanStoresTheComposedRow` and
`ColourMathBlendsTheMarkedPixels`: the last key of each table. -/
theorem test_witness_keys : encode .winnibF = .winNib 0x0F ∧ encode (.sprblit15 0xFF) = .sprKey 0xFF 0x3C ∧
    encode .scan3F = .mainKey 0x3F ∧ encode .scan2F = .mainKey 0x2F ∧ encode .cmathFF = .cmathKey 0xFF := by decide +kernel

/-- For the clauses of `BlitWritesTheSpritesVisiblePixels`: at the last column the sprite covers the screen, its pixel is opaque and
shown on the main screen but not on the sub screen; at column 235 it covers nothing. -/
theorem test_witness_blitClauses :
    let s := spriteState 237 0x01
    let S := s.sprite 0
    (S.x.toInt ≤ 239 ∧ (239 : Int) < S.x.toInt + 1 * (S.width.toNat : Int)) ∧ spritePixelRule s S 0 s.row 239 = 0x0403#16 ∧
    visMain S.windows (s.laneAt 239) = true ∧ visSub S.windows (s.laneAt 239) = false ∧ ¬S.x.toInt ≤ 236 := by decide +kernel

/-- For `BlitIsTheLoopOfItsRule`. -/
theorem test_witness_lines : State.reset.main.length = 240 ∧ State.reset.sub.length = 240 := by decide +kernel

/-- For the clauses of `BackgroundRowIsALayerWritePerColumn`: column 1 is opaque, shown on the main screen and not on the sub screen;
column 239 is transparent. -/
theorem test_witness_backgroundClauses :
    let s := bgState 0
    bgPixelRule s s.map0 s.regs.bg0X s.regs.bg0Y s.row 1 = 0x1041#16 ∧ bgPixelRule s s.map0 s.regs.bg0X s.regs.bg0Y s.row 239 = 0#16 ∧
    visMain s.regs.bg0Windows (s.laneAt 1) = true ∧ visSub s.regs.bg0Windows (s.laneAt 1) = false := by decide +kernel

/-- For the address clauses of `ScanStoresTheComposedRow`, `ForcedBlankClearsASectionOnce`, `SectionStoresItsRegionAndNothingElse` and
`RenderingChangesOnlyWhatTheSpecLists`, whatever `FB_AW` is: from base 0 the section takes addresses 0 to 14399, and 14400 is
another. -/
theorem test_witness_addresses : ∀ k < 14400, 14400 ≠ (0 + k) % 2 ^ Config.fbAW := by
  intro k hk
  have := Nat.mod_le (0 + k) (2 ^ Config.fbAW)
  omega

/-- For `ColourMathBlendsTheMarkedPixels` and `ColourMathProperties`: a row with a marked pixel at column 0 and none at 239, keys with
and without the master enable. -/
theorem test_witness_marked :
    let s := State.reset.setLines (0x8000#16 :: List.replicate 239 0) State.reset.sub
    (0x83#8).getLsbD 7 = true ∧ (0x7F#8).getLsbD 7 = false ∧ (s.mainAt 0).getLsbD 15 = true ∧ (s.mainAt 239).getLsbD 15 = false := by
  decide +kernel

/-- For the precondition of `RENDER`, met and not met: a platform without address 14399 does not back a render from 0, one without
address 14400 does. -/
theorem test_witness_backed : RegionBacked State.reset 0 ∧ RegionBacked { State.reset with fbAbsent := [⟨14400, 1⟩] } 0 ∧
    ¬RegionBacked { State.reset with fbAbsent := [⟨14399, 1⟩] } 0 := by
  simp only [← State.regionPresent_iff]; decide +kernel

/-- For `RenderStartsItsSection` (with `test_witness_backed`), `BlankWritesTheFlagAndClearsTheTracking`, whose clauses values 0 and 1
meet, and `RenderIsRefusedWithoutItsFrameBuffer`. -/
theorem test_witness_idle : State.reset.busy = 0#1 ∧ State.reset.forcedBlank = 0#1 ∧ (0#16).toNat % 2 = 0 ∧ (0xFFFF#16).toNat % 2 = 1 := by
  decide

/-- For `ForcedBlankClearsASectionOnce` (with `test_witness_backed`): section 1 is blanked already and section 3 is not. -/
theorem test_witness_forcedBlank :
    let s := State.reset.setBlanking 1#1 0b0010#4
    s.busy = 0#1 ∧ s.forcedBlank = 1#1 ∧ s.blanked.getLsbD ((5#16).toNat % 4) = true ∧
      s.blanked.getLsbD ((3#16).toNat % 4) = false := by decide

/-- For `HostCommandsAreRefusedWhileBusy`. -/
theorem test_witness_busy : busyState.busy = 1#1 := rfl

/-- For `StepRunsTheDecodedInstruction`, clause 1. -/
theorem test_witness_step_dispatch :
    (State.reset.setDispatch (some (.cmathKey 0x90))).dispatch = some (.cmathKey 0x90) ∧ decode (.cmathKey 0x90) = .ok .cmath90 :=
  ⟨rfl, rfl⟩

/-- For clauses 2 and 3: table 7's entry for row 239, fetched when enabled, and the table disabled. -/
theorem test_witness_step_table :
    let s := ((busyState.setPc ⟨239, 7⟩).setHdma (Mem.setEntry [] 1919 0x0000FFFF)).setRegs { State.reset.regs with hdmaEnable := 0x80 }
    (s.busy = 1#1 ∧ s.dispatch = none ∧ pollsStatus s = false) ∧ s.pc.tbl.toNat < 8 ∧
    s.regs.hdmaEnable.getLsbD s.pc.tbl.toNat = true ∧
    decode (.hdma (Mem.entry s.hdma (240 * s.pc.tbl.toNat + s.row))) = .ok (.hdmaRsvd32768 0xFFFF 0) ∧
    (busyState.setPc ⟨239, 7⟩).regs.hdmaEnable.getLsbD 7 = false := by decide +kernel

/-- For clause 4. -/
theorem test_witness_step_compose :
    let s := busyState.setPc ⟨0, 8⟩
    (s.busy = 1#1 ∧ s.dispatch = none ∧ pollsStatus s = false) ∧ 8 ≤ s.pc.tbl.toNat ∧ decode (.mainKey s.regs.mainFlags) = .ok .scan00 := by
  decide +kernel

/-- For clause 5 and for `RenderRunsItsSectionToCompletion` (with `test_witness_backed`): the host's next access is `RENDER 3`, with no
and with two reads of STATUS after it. -/
theorem test_witness_host_render :
    let s := State.reset.setHost [.write (.reg 35#6) 3]
    s.busy = 0#1 ∧ s.forcedBlank = 0#1 ∧ s.dispatch = none ∧ s.host = [.write (.reg 35#6) 3] ∧ pollsStatus (s.setHost []) = false ∧
    [HostAccess.write (.reg 35#6) 3, .read (.reg 36#6), .read (.reg 36#6)] =
      .write (.reg 35#6) 3 :: (List.replicate 2 (.read (.reg 36#6)) ++ []) ∧
    hostCode (.write (.reg 35#6) 3) = some (.hostWrite 35#6 3) ∧ decode (.hostWrite 35#6 3) = .ok (.render 3) := by decide +kernel

/-- For `NextStepRunsThePlacedWord`: a length on each side of 8. -/
theorem test_witness_placed : decodeTableWord 8 0xFF = some .cmathFF ∧ decodeTableWord 16 0xFFFF = some (.hdmaRsvd32768 0xFFFF 0) := by
  decide +kernel

/-- For `RenderingChangesOnlyWhatTheSpecLists` and `StepKeepsTheInvariant`: a step of a render. -/
theorem test_witness_renderStep : step busyState = .next (busyState.setPc ⟨0, 1⟩) := rfl

/-- For `StepKeepsTheInvariant`: a state of a run other than the reset state. -/
theorem test_witness_invariant : Inv busyState := by
  have h : 0 < 2 ^ Config.fbAW := Nat.two_pow_pos _
  refine ⟨?_, ?_, ?_, ?_, rfl⟩
  · exact State.reset_memOk
  · unfold ScratchOk; decide +kernel
  · exact ⟨by decide, by decide, h, h⟩
  · intro _; rfl

/-- For `EveryStepAnswersANextState`, both clauses: a refused launch, and an idle state. -/
theorem test_witness_every_step :
    let s : State := { State.reset with fbAbsent := [⟨0, 1⟩], host := [.write (.reg 35#6) 3] }
    (s.dispatch = none ∧ s.busy = 0#1 ∧ (∃ v rest, s.host = .write (.reg 35#6) v :: rest) ∧ ¬RegionBacked s s.fbBase) ∧
    State.reset.dispatch = none ∧ ¬∃ v rest, State.reset.host = .write (.reg 35#6) v :: rest := by
  refine ⟨⟨rfl, rfl, ⟨_, _, rfl⟩, ?_⟩, rfl, ?_⟩
  · simp only [← State.regionPresent_iff]; decide +kernel
  · intro ⟨_, _, h⟩; cases h

/-- For `ScratchStateNeverShows`, and for `IdleStepWithoutAnAccessChangesNothing`: two idle machines that differ in their scratch, and a run. -/
theorem test_witness_scratch :
    let s := State.reset.setCache [some 3] []
    SameButScratch State.reset s ∧ State.reset ≠ s ∧ State.reset.dispatch = none ∧
    Host.Core.run Sys2Proof.core 2 State.reset = .next State.reset ∧ State.reset.busy = 0#1 ∧ State.reset.host = [] :=
  ⟨rfl, by decide +kernel, rfl, rfl, rfl, rfl⟩

/-- For `HostReadHasNoSideEffect` and `StatusReadsOneDuringARender`. -/
theorem test_witness_host_read :
    (let s := State.reset.setHost [.read (.map1 0xFFF)]
     s.busy = 0#1 ∧ s.dispatch = none ∧ s.host = [.read (.map1 0xFFF)]) ∧
    (let s := busyState.setHost [.read (.reg 36#6)]
     s.busy = 1#1 ∧ s.dispatch = none ∧ s.host = [.read (.reg 36#6)]) := by decide

/-- For `HostWriteStoresItsEntry`, at a register beside the commands. -/
theorem test_witness_host_write :
    (let s := State.reset.setHost [.write (.reg 33#6) 5]
     s.busy = 0#1 ∧ s.dispatch = none ∧ s.host = [.write (.reg 33#6) 5] ∧ Place.reg 33#6 ≠ .reg 32#6 ∧ Place.reg 33#6 ≠ .reg 35#6) := by decide

/-- For `FrameBufferBaseMovesWhole`, whatever `FB_AW` is: `FB_AW` writes cover the base, and the base 14399 has `FB_AW` bits. -/
theorem test_witness_fb_base :
    let l := (List.range Config.fbAW).map (fun h => HostAccess.write (basePlace h) (BitVec.ofNat 32 (14399 / 2 ^ (16 * h) % 2 ^ 16)))
    let s := State.reset.setHost (l ++ [])
    s.busy = 0#1 ∧ s.dispatch = none ∧ 14399 < 2 ^ Config.fbAW ∧ Config.fbAW ≤ 16 * Config.fbAW ∧ s.host = l ++ [] := by
  refine ⟨rfl, rfl, ?_, ?_, rfl⟩
  · exact Nat.lt_of_lt_of_le (show 14399 < 2 ^ 14 by decide) (Nat.pow_le_pow_right (by decide) (Nat.le_add_right _ _))
  · omega

/-- For the clauses of `WritePlaceChangesItsOwnSpaceOnly` on registers, at the ends of their ranges and beside them. -/
theorem test_witness_write_place :
    (∀ n ∈ [1#6, 19#6], 1 ≤ n.toNat ∧ n.toNat ≤ 19) ∧ (34#6).toNat = 34 ∧
    ∀ n ∈ [0#6, 20#6, 33#6, 35#6, 63#6], ¬(1 ≤ n.toNat ∧ n.toNat ≤ 19) ∧ n.toNat ≠ 34 := by decide

/-- For `NothingEnabledRendersBlack`: bits 7:6 of x[8] are ignored. -/
theorem test_witness_nothing_enabled :
    let s := withRegs fun r => { r with mainFlags := 0xC0, subColour := 0x7FFF }
    s.regs.hdmaEnable = 0 ∧ s.regs.mainFlags.extractLsb' 0 6 = 0 ∧ s.regs.mainColour = 0 := by decide

/-- For `EntryReadsBackAsWritten`: both branches, on the last entry of a space and on an entry of x[34]. -/
theorem test_witness_entry : MemOk State.reset ∧ (∀ n, Place.sprAtlas 0xFFFF ≠ .reg n) ∧ Place.oam 255 4 ≠ Place.sprAtlas 0xFFFF ∧
    (∀ n, Place.baseHigh 0 ≠ .reg n) ∧ State.reset.fbBase < 2 ^ Config.fbAW ∧ Place.baseHigh 1 ≠ Place.baseHigh 0 := by
  refine ⟨State.reset_memOk, nofun, by decide, nofun, Nat.two_pow_pos _, by decide⟩

/-- For `UnassignedNumbersReadZeroAndIgnoreWrites` and the clauses of `RegisterReadsBackAsWritten`, at the ends of their ranges. -/
theorem test_witness_registers :
    (∀ n ∈ [1#6, 19#6], 1 ≤ n.toNat ∧ n.toNat ≤ 19) ∧ (32#6).toNat = 32 ∧ (34#6).toNat = 34 ∧ (33#6).toNat = 33 ∧ (35#6).toNat = 35 ∧
    (36#6).toNat = 36 ∧
    ∀ n ∈ [0#6, 20#6, 31#6, 37#6, 63#6], n.toNat = 0 ∨ (20 ≤ n.toNat ∧ n.toNat ≤ 31) ∨ 37 ≤ n.toNat := by decide

end Sys2Proof.Machine
end

section
/-!
The run of a `RENDER` and the render as one transition (`00_scope.md` R14): the machine's steps are put together turn by turn into the
loops of `40_hdma.md` R140 and `46_forced_blank_and_render.md` R303.
-/

namespace Sys2Proof.Machine

/-! ### Runs that complete -/

/-- `n` steps lead from `s` to `t`. -/
def RunsTo (n : Nat) (s t : State) : Prop := Host.Core.run Sys2Proof.core n s = .next t

theorem RunsTo.zero (s : State) : RunsTo 0 s s := rfl

theorem RunsTo.step_then {s t u : State} {n : Nat} (h : step s = .next t) (ht : RunsTo n t u) : RunsTo (n + 1) s u := by
  have hc : Sys2Proof.core.step s = .next t := h
  simpa only [RunsTo, Host.Core.run, hc] using ht

theorem RunsTo.of_step {s t : State} (h : step s = .next t) : RunsTo 1 s t := .step_then h (.zero t)

theorem RunsTo.trans {s t u : State} {m n : Nat} (hm : RunsTo m s t) (hn : RunsTo n t u) : RunsTo (m + n) s u := by
  induction m generalizing s with
  | zero =>
    obtain rfl : s = t := Host.Outcome.next.inj hm
    simpa using hn
  | succ m ih =>
    cases hs : step s with
    | next v =>
      have hc : Sys2Proof.core.step s = .next v := hs
      have hv : RunsTo m v t := by simpa only [RunsTo, Host.Core.run, hc] using hm
      rw [Nat.add_right_comm]
      exact .step_then hs (ih hv)
    | fault f => cases f
    | refused q =>
      have hc : Sys2Proof.core.step s = .refused q := hs
      simp [RunsTo, Host.Core.run, hc] at hm

/-! ### A render stays in progress while its registers, `pc` and scratch change -/

@[simp] theorem rendering_setRegs (s : State) (r : Regs) : Rendering (s.setRegs r) ↔ Rendering s := Iff.rfl

@[simp] theorem rendering_setPc (s : State) (p : Pc) : Rendering (s.setPc p) ↔ Rendering s := Iff.rfl

@[simp] theorem rendering_setCache (s : State) (c0 c1 : List Slot) : Rendering (s.setCache c0 c1) ↔ Rendering s := Iff.rfl

@[simp] theorem rendering_setWmask (s : State) (w : List Byte) : Rendering (s.setWmask w) ↔ Rendering s := Iff.rfl

@[simp] theorem rendering_setLines (s : State) (m b : List Pixel) : Rendering (s.setLines m b) ↔ Rendering s := Iff.rfl

@[simp] theorem rendering_setOut (s : State) (o : List Pixel) : Rendering (s.setOut o) ↔ Rendering s := Iff.rfl

@[simp] theorem rendering_setFb (s : State) (m : Mem) : Rendering (s.setFb m) ↔ Rendering s := Iff.rfl

@[simp] theorem rendering_composeRow (k : BitVec 6) (s : State) : Rendering (composeRow k s) ↔ Rendering s := by
  rw [composeRow_frame]; simp

@[simp] theorem rendering_prepareRow (s : State) : Rendering (prepareRow s) ↔ Rendering s := by
  rw [prepareRow_frame]; simp

/-- While a render is in progress a step is a turn of the row loop. -/
theorem step_rendering {s : State} (h : Rendering s) : step s = busyTurn s := by
  obtain ⟨hbusy, hdispatch, hpolls⟩ := h
  rw [step_eq s hdispatch, if_pos ⟨hbusy, hpolls⟩]

/-! ### Setting `pc` -/

@[simp] theorem State.setPc_setPc (s : State) (p q : Pc) : (s.setPc p).setPc q = s.setPc q := rfl

theorem State.setPc_self {s : State} {p : Pc} (h : s.pc = p) : s.setPc p = s := by rw [← h]; rfl

/-! ### The HDMA phase of a row -/

/-- An HDMA command changes the State Store registers only. -/
theorem hdmaExec_regs (t : Nat) (e : Entry) (s : State) : ∃ r, hdmaExec t e s = s.setRegs r := by
  unfold hdmaExec
  split
  · exact ⟨_, rfl⟩
  · split
    · exact ⟨_, rfl⟩
    · exact ⟨s.regs, rfl⟩

/-- A table's turn changes the State Store registers and leaves `pc` at that table. -/
theorem hdmaApplyTable_parts (row t : Nat) (s : State) :
    ∃ r, hdmaApplyTable row t s = (s.setRegs r).setPc ⟨BitVec.ofNat 8 row, BitVec.ofNat 4 t⟩ := by
  simp only [hdmaApplyTable]
  split
  · obtain ⟨r, h⟩ := hdmaExec_regs t _ (s.setPc ⟨BitVec.ofNat 8 row, BitVec.ofNat 4 t⟩)
    exact ⟨r, h⟩
  · exact ⟨s.regs, rfl⟩

@[simp] theorem rendering_hdmaApplyTable (row t : Nat) (s : State) : Rendering (hdmaApplyTable row t s) ↔ Rendering s := by
  obtain ⟨r, h⟩ := hdmaApplyTable_parts row t s
  rw [h]; simp

/-- A table's turn sets `pc` before it reads anything. -/
@[simp] theorem hdmaApplyTable_setPc (row t : Nat) (p : Pc) (s : State) :
    hdmaApplyTable row t (s.setPc p) = hdmaApplyTable row t s := rfl

/-- The machine's turn of a table is the rule's, followed by the move to the next table (`10_state.md` R48). -/
theorem hdmaTurn_eq {s : State} {row t : Nat} (hrow : row < 256) (ht : t < 16)
    (hpc : s.pc = ⟨BitVec.ofNat 8 row, BitVec.ofNat 4 t⟩) :
    hdmaTurn s = .next ((hdmaApplyTable row t s).setPc ⟨BitVec.ofNat 8 row, BitVec.ofNat 4 (t + 1)⟩) := by
  have htbl : s.pc.tbl.toNat = t := by simp [hpc, Nat.mod_eq_of_lt ht]
  have hentry : s.currentEntry = Mem.entry s.hdma (hdmaIndex t row) := by
    rw [State.currentEntry, htbl, State.row, hpc, BitVec.toNat_ofNat, Nat.mod_eq_of_lt hrow]
  have hnext : ∀ u : State, u.pc = s.pc → advanceTable u = u.setPc ⟨BitVec.ofNat 8 row, BitVec.ofNat 4 (t + 1)⟩ := by
    intro u hu
    rw [advanceTable, hu, hpc, BitVec.ofNat_add]
    rfl
  have hexec : ∀ e, (hdmaExec t e s).pc = s.pc := by
    intro e
    obtain ⟨r, h⟩ := hdmaExec_regs t e s
    rw [h, State.setRegs_pc]
  simp only [hdmaTurn, hdmaApplyTable, State.setPc_self hpc, runCode_hdma, htbl, hentry]
  split
  · simp only [onNext, hnext _ (hexec _)]
  · rw [hnext s rfl]

/-- The first `n` tables' turns of a row, `pc` then at table `n`. -/
def hdmaTurns (row n : Nat) (s : State) : State :=
  ((List.range n).foldl (fun s t => hdmaApplyTable row t s) s).setPc ⟨BitVec.ofNat 8 row, BitVec.ofNat 4 n⟩

theorem hdmaTurns_zero (row : Nat) (s : State) : hdmaTurns row 0 s = s.setPc ⟨BitVec.ofNat 8 row, 0⟩ := rfl

theorem hdmaTurns_succ (row n : Nat) (s : State) :
    hdmaTurns row (n + 1) s = (hdmaApplyTable row n (hdmaTurns row n s)).setPc ⟨BitVec.ofNat 8 row, BitVec.ofNat 4 (n + 1)⟩ := by
  simp only [hdmaTurns, List.range_succ, List.foldl_append, List.foldl_cons, List.foldl_nil, hdmaApplyTable_setPc]

/-- `HdmaApply` is the turns of all eight tables. -/
theorem hdmaApply_eq_hdmaTurns (row : Nat) (s : State) : hdmaApply row s = hdmaTurns row 8 s := rfl

@[simp] theorem hdmaTurns_pc (row n : Nat) (s : State) :
    (hdmaTurns row n s).pc = ⟨BitVec.ofNat 8 row, BitVec.ofNat 4 n⟩ := rfl

@[simp] theorem rendering_hdmaTurns (row n : Nat) (s : State) : Rendering (hdmaTurns row n s) ↔ Rendering s := by
  induction n with
  | zero => rw [hdmaTurns_zero, rendering_setPc]
  | succ n ih => rw [hdmaTurns_succ, rendering_setPc, rendering_hdmaApplyTable, ih]

/-- `HdmaApply` does not read the `pc` it starts from. -/
@[simp] theorem hdmaApply_setPc (row : Nat) (p : Pc) (s : State) : hdmaApply row (s.setPc p) = hdmaApply row s := rfl

@[simp] theorem hdmaApply_pc (row : Nat) (s : State) : (hdmaApply row s).pc = ⟨BitVec.ofNat 8 row, 8⟩ := rfl

@[simp] theorem rendering_hdmaApply (row : Nat) (s : State) : Rendering (hdmaApply row s) ↔ Rendering s := by
  rw [hdmaApply_eq_hdmaTurns, rendering_hdmaTurns]

/-- From a row's first table the first `n ≤ 8` steps are the first `n` tables' turns. -/
theorem runsTo_hdmaTurns {s : State} {row : Nat} (hrow : row < 256) (hs : Rendering s)
    (hpc : s.pc = ⟨BitVec.ofNat 8 row, 0⟩) (n : Nat) (hn : n ≤ 8) : RunsTo n s (hdmaTurns row n s) := by
  induction n with
  | zero => rw [hdmaTurns_zero, State.setPc_self hpc]; exact .zero s
  | succ n ih =>
    have htbl : (hdmaTurns row n s).pc.tbl.toNat < 8 := by
      simp only [hdmaTurns_pc, BitVec.toNat_ofNat]; omega
    have hstep : step (hdmaTurns row n s) = .next (hdmaTurns row (n + 1) s) := by
      rw [step_rendering ((rendering_hdmaTurns row n s).2 hs), busyTurn, if_pos htbl,
        hdmaTurn_eq hrow (by omega) (hdmaTurns_pc row n s), hdmaTurns_succ]
    exact (ih (by omega)).trans (.of_step hstep)

/-- Eight steps from a row's first table are `HdmaApply` (`40_hdma.md` R140). -/
theorem runsTo_hdmaApply {s : State} {row : Nat} (hrow : row < 256) (hs : Rendering s)
    (hpc : s.pc = ⟨BitVec.ofNat 8 row, 0⟩) : RunsTo 8 s (hdmaApply row s) :=
  runsTo_hdmaTurns hrow hs hpc 8 (by decide)

/-! ### One row -/

/-- The two sprite layers' bits, read in the main key or in x[8]. -/
theorem spritesWanted_eq (s : State) : spritesWanted s = (s.regs.mainFlags.getLsbD 0 || s.regs.mainFlags.getLsbD 1) := by
  simp [spritesWanted, keySpr0, keySpr1, mainKeyOf]

/-- Preparing a row leaves the State Store registers alone. -/
@[simp] theorem prepareRow_regs (s : State) : (prepareRow s).regs = s.regs := by
  rw [prepareRow_frame]; rfl

@[simp] theorem prepareRow_pc (s : State) : (prepareRow s).pc = s.pc := by
  rw [prepareRow_frame]; rfl

@[simp] theorem composeRow_pc (k : BitVec 6) (s : State) : (composeRow k s).pc = s.pc := by
  rw [composeRow_frame]; rfl

/-- A row of `RenderSection` in the machine's own operations: the HDMA phase, then the preparation and the composition. -/
theorem renderRow_eq (row : Nat) (s : State) :
    renderRow row s = composeRow (mainKeyOf (hdmaApply row s).regs.mainFlags) (prepareRow (hdmaApply row s)) := by
  rw [← prepareRow_regs (hdmaApply row s), prepareRow, spritesWanted_eq]
  rfl

@[simp] theorem renderRow_setPc (row : Nat) (p : Pc) (s : State) : renderRow row (s.setPc p) = renderRow row s := by
  rw [renderRow_eq, hdmaApply_setPc, ← renderRow_eq]

@[simp] theorem renderRow_pc (row : Nat) (s : State) : (renderRow row s).pc = ⟨BitVec.ofNat 8 row, 8⟩ := by
  rw [renderRow_eq, composeRow_pc, prepareRow_pc, hdmaApply_pc]

@[simp] theorem rendering_renderRow (row : Nat) (s : State) : Rendering (renderRow row s) ↔ Rendering s := by
  rw [renderRow_eq, rendering_composeRow, rendering_prepareRow, rendering_hdmaApply]

/-- The turn after the HDMA phase selects the scanline microcode by x[8] (`43_composition.md` R221). -/
theorem composeTurn_eq (s : State) :
    composeTurn s = .next (finishRow (composeRow (mainKeyOf s.regs.mainFlags) (prepareRow s))) := by
  rw [composeTurn, runCode_mainKey, onNext]

/-- Nine steps from a row's first table are one row of `RenderSection` (R303) and the end of the row (R48). -/
theorem runsTo_renderRow {s : State} {row : Nat} (hrow : row < 256) (hs : Rendering s)
    (hpc : s.pc = ⟨BitVec.ofNat 8 row, 0⟩) : RunsTo 9 s (finishRow (renderRow row s)) := by
  have hlast : step (hdmaApply row s) = .next (finishRow (renderRow row s)) := by
    rw [step_rendering ((rendering_hdmaApply row s).2 hs), busyTurn, if_neg (by rw [hdmaApply_pc]; exact Nat.lt_irrefl 8),
      composeTurn_eq, renderRow_eq]
  exact (runsTo_hdmaApply hrow hs hpc).trans (.of_step hlast)

/-! ### The rows of a section -/

/-- The first `n` rows of section `t`. -/
def renderFirstRows (t n : Nat) (s : State) : State :=
  (List.range n).foldl (fun s i => renderRow (Config.sectionRows * t + i) s) s

theorem renderFirstRows_zero (t : Nat) (s : State) : renderFirstRows t 0 s = s := rfl

theorem renderFirstRows_succ (t n : Nat) (s : State) :
    renderFirstRows t (n + 1) s = renderRow (60 * t + n) (renderFirstRows t n s) := by
  simp only [renderFirstRows, List.range_succ, List.foldl_append, List.foldl_cons, List.foldl_nil]

/-- `RenderSection`'s loop is the section's 60 rows. -/
theorem renderRows_eq_renderFirstRows (t : Nat) (s : State) : renderRows t s = renderFirstRows t 60 s := rfl

@[simp] theorem rendering_renderFirstRows (t n : Nat) (s : State) : Rendering (renderFirstRows t n s) ↔ Rendering s := by
  induction n with
  | zero => rfl
  | succ n ih => rw [renderFirstRows_succ, rendering_renderRow, ih]

/-- The `pc` a section starts from does not matter once its first row is rendered. -/
theorem renderFirstRows_succ_setPc (t n : Nat) (p : Pc) (s : State) :
    renderFirstRows t (n + 1) (s.setPc p) = renderFirstRows t (n + 1) s := by
  induction n with
  | zero => simp only [renderFirstRows_succ, renderFirstRows_zero, renderRow_setPc]
  | succ n ih => rw [renderFirstRows_succ, ih, ← renderFirstRows_succ]

@[simp] theorem renderRows_setPc (t : Nat) (p : Pc) (s : State) : renderRows t (s.setPc p) = renderRows t s :=
  renderFirstRows_succ_setPc t 59 p s

/-- Row `n` of section `t` is row `60 * t + n` of the display (`20_memory.md` R78). -/
theorem renderRow_rowInSection {t n : Nat} (ht : t < 4) (hn : n < 60) (s : State) :
    (renderRow (60 * t + n) s).rowInSection = n := by
  have hrow : (60 * t + n) % 2 ^ 8 = 60 * t + n := Nat.mod_eq_of_lt (by omega)
  rw [State.rowInSection, State.row, renderRow_pc, BitVec.toNat_ofNat, hrow, Config.sectionRows, Nat.mul_add_mod,
    Nat.mod_eq_of_lt hn]

/-- A row other than its section's last is followed by the next row's first table. -/
theorem finishRow_renderRow_of_lt {t n : Nat} (ht : t < 4) (hn : n < 59) (s : State) :
    finishRow (renderRow (60 * t + n) s) = (renderRow (60 * t + n) s).setPc ⟨BitVec.ofNat 8 (60 * t + (n + 1)), 0⟩ := by
  have hmore : n + 1 ≠ Config.sectionRows := by simp only [Config.sectionRows]; omega
  rw [finishRow, renderRow_rowInSection ht (by omega), if_neg hmore, renderRow_pc, ← Nat.add_assoc, BitVec.ofNat_add _ 1]
  rfl

/-- The last row of a section ends the render. -/
theorem finishRow_renderRow_last {t : Nat} (ht : t < 4) (s : State) :
    finishRow (renderRow (60 * t + 59) s) = (renderRow (60 * t + 59) s).setBusy 0#1 := by
  rw [finishRow, renderRow_rowInSection ht (by decide), if_pos rfl]

/-- From a section's first row and table, nine steps for each of the first `n < 60` rows lead to row `n`'s first table. -/
theorem runsTo_renderFirstRows {s : State} {t : Nat} (ht : t < 4) (hs : Rendering s)
    (hpc : s.pc = ⟨BitVec.ofNat 8 (60 * t), 0⟩) (n : Nat) (hn : n < 60) :
    RunsTo (9 * n) s ((renderFirstRows t n s).setPc ⟨BitVec.ofNat 8 (60 * t + n), 0⟩) := by
  induction n with
  | zero => rw [renderFirstRows_zero, Nat.add_zero, State.setPc_self hpc]; exact .zero s
  | succ n ih =>
    have hrow := runsTo_renderRow (row := 60 * t + n) (by omega)
      (s := (renderFirstRows t n s).setPc ⟨BitVec.ofNat 8 (60 * t + n), 0⟩) (by simpa using hs) rfl
    rw [renderRow_setPc, finishRow_renderRow_of_lt ht (by omega), ← renderFirstRows_succ] at hrow
    exact (ih (by omega)).trans hrow

/-- From a section's first row and table, 540 steps are the loop of `RenderSection` (R303), after which BUSY is 0 (R304). -/
theorem runsTo_renderRows {s : State} {t : Nat} (ht : t < 4) (hs : Rendering s)
    (hpc : s.pc = ⟨BitVec.ofNat 8 (60 * t), 0⟩) : RunsTo 540 s ((renderRows t s).setBusy 0#1) := by
  have hlast := runsTo_renderRow (row := 60 * t + 59) (by omega)
    (s := (renderFirstRows t 59 s).setPc ⟨BitVec.ofNat 8 (60 * t + 59), 0⟩) (by simpa using hs) rfl
  rw [renderRow_setPc, finishRow_renderRow_last ht, ← renderFirstRows_succ, ← renderRows_eq_renderFirstRows] at hlast
  exact (runsTo_renderFirstRows ht hs hpc 59 (by decide)).trans hlast

/-! ### The host's `RENDER` and its reads of STATUS -/

/-- A host write of x[35] is the command `RENDER` (`30_encoding.md` R119). -/
theorem runCode_render (v : Half) (s : State) : runCode (.hostWrite 35#6 v) s = execRender v s := rfl

/-- A `RENDER` names the section of the low two bits of the datum (`10_state.md` R45). -/
theorem sectionOf_truncate (v : Entry) : sectionOf (v.truncate 16) = v.toNat % 4 := by
  simp only [sectionOf, BitVec.extractLsb'_toNat, BitVec.truncate, BitVec.toNat_setWidth, Nat.shiftRight_zero]
  omega

/-- The state in which a render of section `t` has been accepted and nothing of it has run (R300, `10_state.md` R48). -/
def launched (t : Nat) (s : State) : State := (acceptRender t s).setBusy 1#1

/-- A `RENDER` of an idle, backed machine outside forced blank starts its section (R300). -/
theorem step_render {s : State} {v : Entry} {rest : List HostAccess} (hidle : s.busy = 0#1) (hbacked : RegionBacked s s.fbBase)
    (hfb : s.forcedBlank = 0#1) (hd : s.dispatch = none) (hhost : s.host = .write (.reg 35#6) v :: rest) :
    step s = .next (launched (v.toNat % 4) (s.setHost rest)) := by
  have hturn : step s = execRender (v.truncate 16) (s.setHost rest) := by
    rw [step_idle s hd hidle, hostTurn, hhost, ← runCode_render]
    rfl
  have hpresent : (s.setHost rest).regionPresent (s.setHost rest).fbBase = true :=
    ((s.setHost rest).regionPresent_iff _).2 hbacked
  rw [hturn, execRender, if_neg (by simp [hidle]), if_neg (by rw [hpresent]; decide), if_neg (by simp [hfb]), sectionOf_truncate]
  rfl

/-- While a render is in progress a read of STATUS is served at once and returns 1 (`10_state.md` R46). -/
theorem step_statusRead {s : State} {rest : List HostAccess} (hbusy : s.busy = 1#1) (hd : s.dispatch = none)
    (hhost : s.host = .read (.reg 36#6) :: rest) : step s = .next ((s.setHost rest).setHostData 1) := by
  have hpolls : pollsStatus s = true := by rw [pollsStatus, hhost]; rfl
  have hread : (s.setHost rest).readReg 36#6 = 1 := by
    show s.busy.zeroExtend 32 = 1
    rw [hbusy]; rfl
  rw [step_eq s hd, if_neg (by simp [hpolls]), hostTurn, hhost, ← hread]
  rfl

/-- `k` reads of STATUS during a render take one step each and leave 1 on the data port, unless `k` is 0. -/
theorem runsTo_statusReads {s : State} {k : Nat} {rest : List HostAccess} (hbusy : s.busy = 1#1) (hd : s.dispatch = none)
    (hhost : s.host = List.replicate k (.read (.reg 36#6)) ++ rest) :
    RunsTo k s ((s.setHost rest).setHostData (if k = 0 then s.hostData else 1)) := by
  induction k generalizing s with
  | zero =>
    have hs : (s.setHost rest).setHostData s.hostData = s := by
      rw [show rest = s.host by simpa using hhost.symm]; rfl
    rw [if_pos rfl, hs]
    exact .zero s
  | succ k ih =>
    rw [List.replicate_succ, List.cons_append] at hhost
    have hrest := ih (s := (s.setHost (List.replicate k (.read (.reg 36#6)) ++ rest)).setHostData 1) hbusy hd rfl
    rw [State.setHostData_hostData, ite_self] at hrest
    rw [if_neg (by omega)]
    exact .step_then (step_statusRead hbusy hd hhost) hrest

/-! ### The obligation -/

/-- `RenderSection` runs its rows from the launched state, whose `pc` it does not read (R300, R303). -/
theorem renderRows_launched (t : Nat) (s : State) : (renderRows t (launched t s)).setBusy 0#1 = renderSection t s := by
  have hpc : launched t s = ((s.setBusy 1#1).setFbLatch s.fbBase).setPc ⟨BitVec.ofNat 8 (60 * t), 0⟩ := rfl
  rw [hpc, renderRows_setPc, renderSection]

/-- 540 steps from the launched state are R303's render taken as one transition, where the host does not read STATUS. -/
theorem runsTo_renderSection {s : State} {t : Nat} (ht : t < 4) (hd : s.dispatch = none) (hpolls : pollsStatus s = false) :
    RunsTo 540 (launched t s) (renderSection t s) := by
  rw [← renderRows_launched]
  exact runsTo_renderRows ht ⟨rfl, hd, hpolls⟩ rfl

/-- Settles O31: one step launches the section, `k` steps serve the reads of STATUS, and 540 steps run the loop of R303. -/
theorem renderRunsItsSectionToCompletion : Obligations.RenderRunsItsSectionToCompletion := by
  intro s v k rest hidle hbacked hfb hd hhost hpolls
  have hsection : v.toNat % 4 < 4 := Nat.mod_lt _ (by decide)
  have hserved : RunsTo k (launched (v.toNat % 4) (s.setHost (List.replicate k (.read (.reg 36#6)) ++ rest)))
      (launched (v.toNat % 4) ((s.setHost rest).setHostData (if k = 0 then s.hostData else 1))) :=
    runsTo_statusReads rfl hd rfl
  have hrun := RunsTo.step_then (step_render hidle hbacked hfb hd hhost)
    (hserved.trans (runsTo_renderSection hsection hd hpolls))
  rwa [show k + 540 + 1 = 541 + k by omega] at hrun

end Sys2Proof.Machine
end

section
/-!
The registers of the host port by number (`10_state.md` R21, R41 to R47): what each number reads in every state, what a write of it
stores, and which reads an update leaves alone; then x[34] moved entry by entry (R44).
-/

namespace Sys2Proof.Machine

/-! ### The State Store registers -/

/-- The numbers outside 1 to 19 name no State Store register (`10_state.md` R41). -/
theorem Regs.read_unassigned (r : Regs) {n : Nat} (hn : n = 0 ∨ 20 ≤ n) : r.read n = 0 := by
  unfold Regs.read
  split
  case h_20 => rfl
  all_goals omega

theorem Regs.write_unassigned (r : Regs) {n : Nat} (v : Half) (hn : n = 0 ∨ 20 ≤ n) : r.write n v = r := by
  unfold Regs.write
  split
  case h_20 => rfl
  all_goals omega

theorem Regs.read_reset (n : Nat) : Regs.reset.read n = 0 := by
  unfold Regs.read
  split <;> rfl

/-! ### Reads by number -/

theorem State.readReg_forcedBlank (s : State) : s.readReg 32#6 = s.forcedBlank.zeroExtend 32 := rfl

theorem State.readReg_blanked (s : State) : s.readReg 33#6 = s.blanked.zeroExtend 32 := rfl

theorem State.readReg_fbBase (s : State) : s.readReg 34#6 = (basePiece s.fbBase 0).zeroExtend 32 := rfl

theorem State.readReg_render (s : State) : s.readReg 35#6 = 0 := rfl

theorem State.readReg_status (s : State) : s.readReg 36#6 = s.busy.zeroExtend 32 := rfl

/-- Every number but the control registers' reads the State Store. -/
theorem State.readReg_store (s : State) {n : BitVec 6} (hn : n.toNat < 32 ∨ 36 < n.toNat) :
    s.readReg n = (s.regs.read n.toNat).zeroExtend 32 := by
  unfold State.readReg
  split
  case h_6 => rfl
  all_goals omega

/-- A register number is one of the five control registers', or reads the State Store. -/
theorem regNumber_cases (n : BitVec 6) :
    n = 32#6 ∨ n = 33#6 ∨ n = 34#6 ∨ n = 35#6 ∨ n = 36#6 ∨ n.toNat < 32 ∨ 36 < n.toNat := by
  bv_omega

/-- Replacing the State Store leaves alone every register whose number reads the same there. -/
theorem State.readReg_setRegs (s : State) {r : Regs} {n : BitVec 6} (h : r.read n.toNat = s.regs.read n.toNat) :
    (s.setRegs r).readReg n = s.readReg n := by
  rcases regNumber_cases n with rfl | rfl | rfl | rfl | rfl | hn
  case inr.inr.inr.inr.inr => rw [State.readReg_store _ hn, State.readReg_store _ hn, State.setRegs_regs, h]
  all_goals rfl

/-- Replacing FB_BASE leaves alone every register but x[34]. -/
theorem State.readReg_setFbBase (s : State) (a : Nat) {n : BitVec 6} (h : n ≠ 34#6) :
    (s.setFbBase a).readReg n = s.readReg n := by
  rcases regNumber_cases n with rfl | rfl | rfl | rfl | rfl | hn
  case inr.inr.inl => exact absurd rfl h
  case inr.inr.inr.inr.inr => rw [State.readReg_store _ hn, State.readReg_store _ hn, State.setFbBase_regs]
  all_goals rfl

/-! ### Writes by number -/

theorem State.writeReg_fbBase (s : State) (v : Entry) : s.writeReg 34#6 v = s.writeBasePiece 0 (v.truncate 16) := rfl

theorem State.writeReg_store (s : State) {n : BitVec 6} (v : Entry) (hn : n.toNat ≠ 34) :
    s.writeReg n v = s.setRegs (s.regs.write n.toNat (v.truncate 16)) := by
  unfold State.writeReg
  split
  · next h => exact absurd h hn
  · rfl

/-- A write of a number beside 1 to 19 and 34 changes nothing. -/
theorem State.writeReg_ignored (s : State) {n : BitVec 6} (v : Entry) (hstore : n.toNat = 0 ∨ 20 ≤ n.toNat)
    (hbase : n.toNat ≠ 34) : s.writeReg n v = s := by
  rw [State.writeReg_store s v hbase, Regs.write_unassigned s.regs _ hstore]
  rfl

/-- A written State Store register reads back truncated to its width, every other register as before (`10_state.md` R21, R47). -/
theorem State.readReg_writeReg_store (s : State) {n : BitVec 6} (m : BitVec 6) (v : Entry) (hn : 1 ≤ n.toNat ∧ n.toNat ≤ 19) :
    (s.writeReg n v).readReg m = if m = n then BitVec.ofNat 32 (v.toNat % 2 ^ storeWidth n.toNat) else s.readReg m := by
  obtain ⟨h1, h19⟩ := hn
  rw [State.writeReg_store s v (by omega)]
  split
  · next hm =>
    subst hm
    have hwidth : storeWidth m.toNat ≤ 16 := by unfold storeWidth; split <;> decide
    have hmod : v.toNat % 2 ^ 16 % 2 ^ storeWidth m.toNat = v.toNat % 2 ^ storeWidth m.toNat :=
      Nat.mod_mod_of_dvd _ (Nat.pow_dvd_pow 2 hwidth)
    have hlt : v.toNat % 2 ^ storeWidth m.toNat < 2 ^ 16 :=
      (Nat.mod_lt _ (Nat.two_pow_pos _)).trans_le (Nat.pow_le_pow_right (by decide) hwidth)
    rw [State.readReg_store _ (by omega), State.setRegs_regs, Regs.read_write_same _ _ _ h1 h19]
    apply BitVec.eq_of_toNat_eq
    simp only [BitVec.truncate, BitVec.zeroExtend, BitVec.toNat_setWidth, BitVec.toNat_ofNat, hmod]
    omega
  · next hm =>
    exact s.readReg_setRegs (Regs.read_write_other _ _ _ _ fun h => hm (BitVec.eq_of_toNat_eq h))

/-! ### x[34] -/

/-- After a write of its first entry x[34] reads the 16 bits written, without those beyond `FB_AW` (`10_state.md` R21, R44). -/
theorem State.readReg_writeReg_fbBase (s : State) (m : BitVec 6) (v : Entry) :
    (s.writeReg 34#6 v).readReg m =
      if m = 34#6 then BitVec.ofNat 32 (v.toNat % 2 ^ 16 % 2 ^ Config.fbAW) else s.readReg m := by
  rw [State.writeReg_fbBase]
  split
  · next hm =>
    subst hm
    rw [State.readReg_fbBase]
    apply BitVec.eq_of_getLsbD_eq
    intro i hi
    simp only [basePiece, BitVec.zeroExtend, BitVec.truncate, BitVec.getLsbD_setWidth, BitVec.getLsbD_ofNat,
      Nat.testBit_div_two_pow, State.writeBasePiece_testBit, Nat.testBit_mod_two_pow, hi, decide_true, Bool.true_and]
    by_cases h16 : i < 16 <;> simp [h16, BitVec.getLsbD]
  · next hm => exact s.readReg_setFbBase _ hm

/-- The entries of x[34] are the places `basePlace h`. -/
theorem State.readPlace_basePlace (s : State) (h : Nat) :
    s.readPlace (basePlace h) = (basePiece s.fbBase h).zeroExtend 32 := by
  cases h <;> rfl

theorem State.writePlace_basePlace (s : State) (h : Nat) (v : Entry) :
    s.writePlace (basePlace h) v = s.writeBasePiece h (v.truncate 16) := by
  cases h <;> rfl

theorem basePiece_zeroExtend_toNat (a h : Nat) : ((basePiece a h).zeroExtend 32).toNat = a / 2 ^ (16 * h) % 2 ^ 16 := by
  simp only [basePiece, BitVec.zeroExtend, BitVec.toNat_setWidth, BitVec.toNat_ofNat]
  omega

/-- The host's write of entry `h` of `a`. -/
def baseWrite (a h : Nat) : HostAccess := .write (basePlace h) (BitVec.ofNat 32 (a / 2 ^ (16 * h) % 2 ^ 16))

/-- It stores that entry (`20_memory.md` R73). -/
theorem access_baseWrite (s : State) (a h : Nat) : s.access (baseWrite a h) = s.writeBasePiece h (basePiece a h) := by
  have hdatum : (BitVec.ofNat 32 (a / 2 ^ (16 * h) % 2 ^ 16)).truncate 16 = basePiece a h := by
    apply BitVec.eq_of_toNat_eq
    simp only [basePiece, BitVec.truncate, BitVec.toNat_setWidth, BitVec.toNat_ofNat]
    omega
  rw [baseWrite, State.access, State.writePlace_basePlace, hdatum]

theorem hostCode_baseWrite (a h : Nat) : hostCode (baseWrite a h) = none := by
  cases h <;> rfl

/-- An idle step whose host writes an entry of x[34] stores it. -/
theorem step_baseWrite {s : State} {a h : Nat} {rest : List HostAccess} (hidle : s.busy = 0#1) (hd : s.dispatch = none)
    (hhost : s.host = baseWrite a h :: rest) : step s = .next ((s.setHost rest).writeBasePiece h (basePiece a h)) := by
  rw [step_idle s hd hidle, hostTurn, hhost]
  simp only [hostCode_baseWrite, access_baseWrite]

/-- FB_BASE after writes of the first `n` entries of `a` in ascending order, from `b`. -/
def baseAfterWrites (a b : Nat) : Nat → Nat
  | 0 => b
  | n + 1 => fbWrap (withBasePiece (baseAfterWrites a b n) n (basePiece a n))

/-- `n` idle steps that write the first `n` entries of `a` change FB_BASE and the queue alone. -/
theorem runsTo_writeBasePieces (a n : Nat) {s : State} {rest : List HostAccess} (hidle : s.busy = 0#1) (hd : s.dispatch = none)
    (hhost : s.host = (List.range n).map (baseWrite a) ++ rest) :
    RunsTo n s ((s.setHost rest).setFbBase (baseAfterWrites a s.fbBase n)) := by
  induction n generalizing rest with
  | zero =>
    have hrest : s.host = rest := hhost
    rw [← hrest]
    exact .zero s
  | succ n ih =>
    rw [List.range_succ, List.map_append, List.append_assoc] at hhost
    exact (ih hhost).trans (.of_step (step_baseWrite hidle hd rfl))

/-- The written entries of FB_BASE hold the bits of `a`. -/
theorem baseAfterWrites_testBit {a : Nat} (b : Nat) (ha : a < 2 ^ Config.fbAW) (n : Nat) {j : Nat} (hj : j < 16 * n) :
    (baseAfterWrites a b n).testBit j = a.testBit j := by
  induction n with
  | zero => omega
  | succ n ih =>
    rw [baseAfterWrites, fbWrap_eq, Nat.testBit_mod_two_pow, withBasePiece_testBit]
    by_cases hbits : j < Config.fbAW
    · rw [decide_eq_true hbits, Bool.true_and]
      split
      · next hentry =>
        have hi : j - 16 * n < 16 := by omega
        simp only [basePiece, BitVec.getLsbD_ofNat, Nat.testBit_div_two_pow, hi, decide_true, Bool.true_and]
        rw [Nat.sub_add_cancel hentry.1]
      · exact ih (by omega)
    · have hzero : a.testBit j = false :=
        Nat.testBit_lt_two_pow (ha.trans_le (Nat.pow_le_pow_right (by decide) (by omega)))
      rw [decide_eq_false hbits, Bool.false_and, hzero]

/-- Entries that cover `FB_AW` bits leave nothing of the base before them. -/
theorem baseAfterWrites_eq {a n : Nat} (b : Nat) (ha : a < 2 ^ Config.fbAW) (hn : Config.fbAW ≤ 16 * n) :
    baseAfterWrites a b n = a := by
  have hlt : baseAfterWrites a b n < 2 ^ Config.fbAW := by
    cases n with
    | zero => unfold Config.fbAW at hn; omega
    | succ n => exact fbWrap_lt _
  apply Nat.eq_of_testBit_eq
  intro j
  by_cases hj : j < Config.fbAW
  · exact baseAfterWrites_testBit b ha n (by omega)
  · have hpow : 2 ^ Config.fbAW ≤ 2 ^ j := Nat.pow_le_pow_right (by decide) (by omega)
    rw [Nat.testBit_lt_two_pow (hlt.trans_le hpow), Nat.testBit_lt_two_pow (ha.trans_le hpow)]

/-! ### The obligations -/

/-- Settles O44: each clause is the lemma on its number. -/
theorem registerReadsBackAsWritten : Obligations.RegisterReadsBackAsWritten := by
  intro s n m v
  have number : ∀ {k : BitVec 6}, n.toNat = k.toNat → n = k := BitVec.eq_of_toNat_eq
  refine ⟨s.readReg_writeReg_store m v, fun h34 => ?_, fun hro => ?_, fun h32 => ?_, fun h33 => ?_, fun h34 => ?_, fun h35 => ?_,
    fun h36 => ?_⟩
  · rw [number (k := 34#6) h34]
    exact s.readReg_writeReg_fbBase m v
  · exact s.writeReg_ignored v (by omega) (by omega)
  · rw [number (k := 32#6) h32, s.readReg_forcedBlank]
    exact BitVec.toNat_setWidth_of_le (by decide)
  · rw [number (k := 33#6) h33, s.readReg_blanked]
    exact BitVec.toNat_setWidth_of_le (by decide)
  · rw [number (k := 34#6) h34, s.readReg_fbBase, basePiece_zeroExtend_toNat, Nat.mul_zero, pow_zero, Nat.div_one]
  · rw [number (k := 35#6) h35, s.readReg_render]
  · rw [number (k := 36#6) h36, s.readReg_status]
    exact BitVec.toNat_setWidth_of_le (by decide)

/-- Settles O46: the run by induction on the number of entries, its last FB_BASE bit by bit. -/
theorem frameBufferBaseMovesWhole : Obligations.FrameBufferBaseMovesWhole := by
  refine ⟨fun s a n rest hidle hd ha hn hhost => ?_, fun s h => ?_⟩
  · have hrun := runsTo_writeBasePieces a n hidle hd hhost
    rwa [baseAfterWrites_eq s.fbBase ha hn] at hrun
  · rw [State.readPlace_basePlace, basePiece_zeroExtend_toNat]

/-- A memory that lists nothing holds zeros (`10_state.md` R61). -/
theorem Mem.half_nil (k : Nat) : Mem.half [] k = 0 := by
  show (0#8 ++ 0#8 : BitVec (8 + 8)) = 0
  rfl

theorem State.readReg_reset (n : BitVec 6) : State.reset.readReg n = 0 := by
  rcases regNumber_cases n with rfl | rfl | rfl | rfl | rfl | hn
  case inr.inr.inr.inr.inr =>
    have hregs : State.reset.regs.read n.toNat = 0 := Regs.read_reset _
    rw [State.readReg_store _ hn, hregs]
    rfl
  all_goals rfl

/-- Settles O38: the State Store and the control registers are 0, and no memory lists a byte. -/
theorem resetReadsAsTheSpecSays : Obligations.ResetReadsAsTheSpecSays :=
  ⟨State.readReg_reset, rfl, rfl, fun k => ⟨Mem.half_nil k, Mem.half_nil k, Mem.half_nil k, Mem.half_nil k, Mem.half_nil k⟩⟩

/-- Settles O41: a step with a poll of STATUS serves the host before the sequencer (log 7). -/
theorem statusReadsOneDuringARender : Obligations.StatusReadsOneDuringARender :=
  fun _ _ hbusy hd hhost => step_statusRead hbusy hd hhost

/-- Settles O43: such a number reaches the State Store, which has no register of it. -/
theorem unassignedNumbersReadZeroAndIgnoreWrites : Obligations.UnassignedNumbersReadZeroAndIgnoreWrites := by
  intro s n v hn
  constructor
  · rw [s.readReg_store (by omega), Regs.read_unassigned s.regs (by omega)]
    rfl
  · exact s.writeReg_ignored v (by omega) (by omega)

end Sys2Proof.Machine
end

section
/-!
The invariant of the machine's states (`10_state.md` R43, R48, R50): each operation a step is made of keeps it, and so does the step.
-/

namespace Sys2Proof.Machine

/-! ### What the invariant says, part by part -/

theorem Inv.row_lt {s : State} (h : Inv s) : s.pc.row.toNat < 240 := by
  obtain ⟨_, _, ⟨hrow, _⟩, _⟩ := h
  exact hrow

theorem Inv.fbBase_lt {s : State} (h : Inv s) : s.fbBase < 2 ^ Config.fbAW := by
  obtain ⟨_, _, ⟨_, _, hbase, _⟩, _⟩ := h
  exact hbase

theorem Inv.fb_wf {s : State} (h : Inv s) : Mem.wf noDefault s.fb ∧ Mem.below (2 * 2 ^ Config.fbAW) s.fb := by
  obtain ⟨⟨_, _, _, _, _, _, hfb⟩, _⟩ := h
  exact hfb

theorem Inv.memOk {s : State} (h : Inv s) : MemOk s := by
  obtain ⟨hmem, _⟩ := h
  exact hmem

theorem Inv.dispatch_eq {s : State} (h : Inv s) : s.dispatch = none := by
  obtain ⟨_, _, _, _, hdispatch⟩ := h
  exact hdispatch

/-! ### The updates of the state -/

theorem Inv.ite {s t : State} {c : Prop} [Decidable c] (hs : Inv s) (ht : Inv t) : Inv (if c then s else t) := by
  split
  · exact hs
  · exact ht

theorem Inv.setRegs {s : State} (h : Inv s) (r : Regs) : Inv (s.setRegs r) := h

theorem Inv.setBusy {s : State} (h : Inv s) (b : BitVec 1) : Inv (s.setBusy b) := h

theorem Inv.setHost {s : State} (h : Inv s) (l : List HostAccess) : Inv (s.setHost l) := h

theorem Inv.setHostData {s : State} (h : Inv s) (d : Entry) : Inv (s.setHostData d) := h

theorem Inv.setPc {s : State} (h : Inv s) {p : Pc} (hrow : p.row.toNat < 240) (htbl : p.tbl.toNat ≤ 8) : Inv (s.setPc p) := by
  obtain ⟨hmem, hscratch, ⟨_, _, hbase, hlatch⟩, hblank, hdispatch⟩ := h
  exact ⟨hmem, hscratch, ⟨hrow, htbl, hbase, hlatch⟩, hblank, hdispatch⟩

theorem Inv.setFbBase {s : State} (h : Inv s) {a : Nat} (ha : a < 2 ^ Config.fbAW) : Inv (s.setFbBase a) := by
  obtain ⟨hmem, hscratch, ⟨hrow, htbl, _, hlatch⟩, hblank, hdispatch⟩ := h
  exact ⟨hmem, hscratch, ⟨hrow, htbl, ha, hlatch⟩, hblank, hdispatch⟩

theorem Inv.setFbLatch {s : State} (h : Inv s) {a : Nat} (ha : a < 2 ^ Config.fbAW) : Inv (s.setFbLatch a) := by
  obtain ⟨hmem, hscratch, ⟨hrow, htbl, hbase, _⟩, hblank, hdispatch⟩ := h
  exact ⟨hmem, hscratch, ⟨hrow, htbl, hbase, ha⟩, hblank, hdispatch⟩

theorem Inv.setBlanking {s : State} (h : Inv s) {f : BitVec 1} {b : BitVec 4} (hb : f = 0#1 → b = 0#4) :
    Inv (s.setBlanking f b) := by
  obtain ⟨hmem, hscratch, hseq, _, hdispatch⟩ := h
  exact ⟨hmem, hscratch, hseq, hb, hdispatch⟩

theorem Inv.setFb {s : State} (h : Inv s) {m : Mem} (hwf : Mem.wf noDefault m) (hbelow : Mem.below (2 * 2 ^ Config.fbAW) m) :
    Inv (s.setFb m) := by
  obtain ⟨⟨hoam, hmap0, hmap1, hbg, hspr, hhdma, _⟩, hscratch, hseq, hblank, hdispatch⟩ := h
  exact ⟨⟨hoam, hmap0, hmap1, hbg, hspr, hhdma, hwf, hbelow⟩, hscratch, hseq, hblank, hdispatch⟩

theorem Inv.setCache {s : State} (h : Inv s) {c0 c1 : List Slot} (h0 : c0.length = 16) (h1 : c1.length = 16) :
    Inv (s.setCache c0 c1) := by
  obtain ⟨hmem, ⟨_, _, hrows⟩, hseq, hblank, hdispatch⟩ := h
  exact ⟨hmem, ⟨h0, h1, hrows⟩, hseq, hblank, hdispatch⟩

theorem Inv.setWmask {s : State} (h : Inv s) {w : List Byte} (hw : w.length = 240) : Inv (s.setWmask w) := by
  obtain ⟨hmem, ⟨h0, h1, _, hrows⟩, hseq, hblank, hdispatch⟩ := h
  exact ⟨hmem, ⟨h0, h1, hw, hrows⟩, hseq, hblank, hdispatch⟩

theorem Inv.setLines {s : State} (h : Inv s) {m b : List Pixel} (hm : m.length = 240) (hb : b.length = 240) :
    Inv (s.setLines m b) := by
  obtain ⟨hmem, ⟨h0, h1, hw, _, _, hrows⟩, hseq, hblank, hdispatch⟩ := h
  exact ⟨hmem, ⟨h0, h1, hw, hm, hb, hrows⟩, hseq, hblank, hdispatch⟩

theorem Inv.setOut {s : State} (h : Inv s) {o : List Pixel} (ho : o.length = 240) : Inv (s.setOut o) := by
  obtain ⟨hmem, ⟨h0, h1, hw, hm, hb, _, hsel⟩, hseq, hblank, hdispatch⟩ := h
  exact ⟨hmem, ⟨h0, h1, hw, hm, hb, ho, hsel⟩, hseq, hblank, hdispatch⟩

/-- What the invariant says of the write port's stores, in the form in which pixels are stored. -/
theorem Inv.storePixels {s : State} (h : Inv s) (a : Nat) (ps : List Pixel) : Inv (s.setFb (Mem.storePixels s.fb a ps)) := by
  obtain ⟨hwf, hbelow⟩ := h.fb_wf
  exact h.setFb (Mem.storePixels_wf hwf a ps) (Mem.storePixels_below hbelow a ps)

/-! ### The cull: at most 16 sprites of each class -/

/-- A turn of the scan adds to no list that holds 16 sprites (`41_sprite_cache.md` R180). -/
theorem cullStep_length (s : State) (row : Nat) (acc : List Byte × List Byte) (i : Byte)
    (h : acc.1.length ≤ 16 ∧ acc.2.length ≤ 16) :
    (cullStep s row acc i).1.length ≤ 16 ∧ (cullStep s row acc i).2.length ≤ 16 := by
  obtain ⟨h0, h1⟩ := h
  unfold cullStep
  split_ifs with hfull hroom0 hroom1
  · exact ⟨h0, h1⟩
  · have hlt : acc.1.length < 16 := by simpa using (Bool.and_eq_true_iff.1 hroom0).1
    exact ⟨by rw [List.length_append, List.length_singleton]; omega, h1⟩
  · have hlt : acc.2.length < 16 := by simpa using (Bool.and_eq_true_iff.1 hroom1).1
    exact ⟨h0, by rw [List.length_append, List.length_singleton]; omega⟩
  · exact ⟨h0, h1⟩

theorem cullLists_length (s : State) (row : Nat) : (cullLists s row).1.length ≤ 16 ∧ (cullLists s row).2.length ≤ 16 := by
  unfold cullLists
  refine List.foldlRecOn _ (cullStep s row) (motive := fun acc => acc.1.length ≤ 16 ∧ acc.2.length ≤ 16) ?_ ?_
  · exact ⟨Nat.zero_le _, Nat.zero_le _⟩
  · intro acc hacc i _
    exact cullStep_length s row acc i hacc

/-- Padding with the sentinel fills a list of at most 16 sprites to 16 slots (`41_sprite_cache.md` R183). -/
theorem padSlots_length {l : List Byte} (h : l.length ≤ 16) : (padSlots l).length = 16 := by
  simp only [padSlots, List.length_append, List.length_map, List.length_replicate, Config.cacheSlots]
  omega

/-! ### The operations of a row -/

theorem Inv.cull {s : State} (h : Inv s) : Inv (cull s) := by
  obtain ⟨h0, h1⟩ := cullLists_length s s.row
  exact h.setCache (padSlots_length h0) (padSlots_length h1)

theorem Inv.prepareRow {s : State} (h : Inv s) : Inv (prepareRow s) :=
  (Inv.ite h.cull h).setWmask (row240_length _)

theorem Inv.fallback {s : State} (h : Inv s) (winen : Bool) : Inv (fallback winen s) :=
  h.setLines (row240_length _) (row240_length _)

theorem Inv.bgRow {s : State} (h : Inv s) (b : Background) : Inv (bgRow b s) :=
  h.setLines (row240_length _) (row240_length _)

theorem Inv.sprBlit {s : State} (h : Inv s) (i : Byte) : Inv (sprBlit i s) :=
  h.setLines (row240_length _) (row240_length _)

theorem Inv.sprLayer {s : State} (h : Inv s) (l : List Slot) : Inv (sprLayer l s) := by
  induction l generalizing s with
  | nil => exact h
  | cons slot l ih =>
    cases slot with
    | none => exact h
    | some i => exact ih (h.sprBlit i)

theorem Inv.stageSpr0 {s : State} (h : Inv s) (k : BitVec 6) : Inv (stageSpr0 k s) :=
  Inv.ite (h.sprLayer _) h

theorem Inv.stageBg0 {s : State} (h : Inv s) (k : BitVec 6) : Inv (stageBg0 k s) :=
  Inv.ite (h.bgRow _) h

theorem Inv.stageBg1 {s : State} (h : Inv s) (k : BitVec 6) : Inv (stageBg1 k s) :=
  Inv.ite (h.bgRow _) h

theorem Inv.stageSpr1 {s : State} (h : Inv s) (k : BitVec 6) : Inv (stageSpr1 k s) :=
  Inv.ite (h.sprLayer _) h

theorem Inv.composeLayers {s : State} (h : Inv s) (k : BitVec 6) : Inv (composeLayers k s) :=
  ((((h.fallback _).stageSpr0 k).stageBg0 k).stageBg1 k).stageSpr1 k

theorem Inv.stageCmath {s : State} (h : Inv s) (k : BitVec 6) : Inv (stageCmath k s) := by
  have hlength := stageCmath_out_length k s
  obtain ⟨o, ho⟩ := stageCmath_out k s
  rw [ho] at hlength ⊢
  exact h.setOut hlength

/-- A scanline microcode keeps the invariant (`43_composition.md` R220). -/
theorem Inv.composeRow {s : State} (h : Inv s) (k : BitVec 6) : Inv (composeRow k s) :=
  ((h.composeLayers k).stageCmath k).storePixels _ _

/-! ### The turns of the sequencer -/

/-- Only rows before 239 move on to the next row: 239 is the last of its section (`10_state.md` R48). -/
theorem Inv.finishRow {s : State} (h : Inv s) : Inv (finishRow s) := by
  unfold Machine.finishRow
  split
  · exact h.setBusy _
  · next hmore =>
    have hrow := h.row_lt
    simp only [State.rowInSection, State.row, Config.sectionRows] at hmore
    refine h.setPc ?_ (Nat.zero_le 8)
    rw [BitVec.toNat_add]
    show (s.pc.row.toNat + 1) % 2 ^ 8 < 240
    omega

theorem Inv.hdmaExec {s : State} (h : Inv s) (t : Nat) (e : Entry) : Inv (hdmaExec t e s) := by
  obtain ⟨r, hr⟩ := hdmaExec_regs t e s
  rw [hr]
  exact h.setRegs r

theorem hdmaExec_pc (t : Nat) (e : Entry) (s : State) : (hdmaExec t e s).pc = s.pc := by
  obtain ⟨r, hr⟩ := hdmaExec_regs t e s
  rw [hr, State.setRegs_pc]

/-- `TBL` moves on during the HDMA phase alone, so it never passes 8 (`10_state.md` R48). -/
theorem Inv.advanceTable {s : State} (h : Inv s) (htbl : s.pc.tbl.toNat < 8) : Inv (advanceTable s) := by
  refine h.setPc h.row_lt ?_
  rw [BitVec.toNat_add]
  show (s.pc.tbl.toNat + 1) % 2 ^ 4 ≤ 8
  omega

/-- A table's turn, in the HDMA phase, keeps the invariant (`40_hdma.md` R140). -/
theorem Inv.hdmaTurn {s t : State} (h : Inv s) (htbl : s.pc.tbl.toNat < 8) (ht : hdmaTurn s = .next t) : Inv t := by
  unfold Machine.hdmaTurn at ht
  split at ht
  · rw [runCode_hdma] at ht
    obtain ⟨u, hu, rfl⟩ := onNext_eq_next ht
    cases hu
    exact (h.hdmaExec _ _).advanceTable (by rwa [hdmaExec_pc])
  · cases ht
    exact h.advanceTable htbl

/-- The turn after the HDMA phase keeps the invariant. -/
theorem Inv.composeTurn {s t : State} (h : Inv s) (ht : composeTurn s = .next t) : Inv t := by
  rw [composeTurn_eq] at ht
  cases ht
  exact (h.prepareRow.composeRow _).finishRow

theorem Inv.busyTurn {s t : State} (h : Inv s) (ht : busyTurn s = .next t) : Inv t := by
  unfold Machine.busyTurn at ht
  split at ht
  · next htbl => exact h.hdmaTurn htbl ht
  · exact h.composeTurn ht

/-! ### The host's commands -/

theorem sectionOf_lt (v : Half) : sectionOf v < 4 := (v.extractLsb' 0 2).isLt

theorem Inv.acceptRender {s : State} (h : Inv s) {t : Nat} (ht : t < 4) : Inv (acceptRender t s) := by
  refine (h.setFbLatch h.fbBase_lt).setPc ?_ (Nat.zero_le 8)
  rw [BitVec.toNat_ofNat]
  have hfirst : 60 * t < 240 := by omega
  exact (Nat.mod_le _ _).trans_lt hfirst

/-- The fast path sets a bit of BLANKED, so FORCED_BLANK has to be set (`10_state.md` R43). -/
theorem Inv.forcedBlank {s : State} (h : Inv s) (t base : Nat) (hf : s.forcedBlank = 1#1) : Inv (forcedBlank t base s) := by
  unfold Machine.forcedBlank
  split
  · exact h
  · refine (h.storePixels _ _).setBlanking fun h0 => ?_
    rw [hf] at h0
    exact absurd h0 (by decide)

theorem Inv.execRender {s t : State} (h : Inv s) {v : Half} (ht : execRender v s = .next t) : Inv t := by
  have haccepted : Inv (Machine.acceptRender (sectionOf v) s) := h.acceptRender (sectionOf_lt v)
  rcases execRender_cases v s with ⟨_, hr⟩ | ⟨_, _, hr⟩ | ⟨_, _, hf, hr⟩ | ⟨_, _, _, hr⟩ <;> rw [hr] at ht <;> cases ht
  · exact haccepted.forcedBlank _ _ hf
  · exact haccepted.setBusy _

theorem Inv.execBlank {s t : State} (h : Inv s) {v : Half} (ht : execBlank v s = .next t) : Inv t := by
  unfold Machine.execBlank at ht
  split at ht
  · cases ht
  · cases ht
    exact h.setBlanking fun h0 => if_pos h0

/-- The host commands are the writes of x[32] and x[35] (`30_encoding.md` R119). -/
theorem hostCode_eq_some {a : HostAccess} {c : Code} (h : hostCode a = some c) :
    ∃ v, c = .hostWrite 32#6 v ∨ c = .hostWrite 35#6 v := by
  unfold hostCode at h
  split at h
  · next n v =>
    split at h
    · next hn =>
      cases h
      rcases hn with rfl | rfl
      · exact ⟨_, .inl rfl⟩
      · exact ⟨_, .inr rfl⟩
    · cases h
  · cases h

/-- A host write of x[32] is the command `BLANK` (`30_encoding.md` R119). -/
theorem runCode_blank (v : Half) (s : State) : runCode (.hostWrite 32#6 v) s = execBlank v s := rfl

/-! ### The host's plain accesses -/

theorem Inv.writeBasePiece {s : State} (h : Inv s) (k : Nat) (v : Half) : Inv (s.writeBasePiece k v) :=
  h.setFbBase (fbWrap_lt _)

theorem Inv.writeReg {s : State} (h : Inv s) (n : BitVec 6) (v : Entry) : Inv (s.writeReg n v) := by
  by_cases hn : n.toNat = 34
  · obtain rfl : n = 34#6 := BitVec.eq_of_toNat_eq hn
    rw [State.writeReg_fbBase]
    exact h.writeBasePiece _ _
  · rw [State.writeReg_store s v hn]
    exact h.setRegs _

/-- A write outside x[34] changes the State Store or a memory. -/
theorem Inv.writePlace {s : State} (h : Inv s) (p : Place) (v : Entry) : Inv (s.writePlace p v) := by
  have hmem := State.writePlace_memOk h.memOk p v
  have ⟨_, hrest⟩ := h
  cases p with
  | reg n => exact h.writeReg n v
  | baseHigh k => exact h.writeBasePiece _ _
  | oam i w => exact ⟨hmem, hrest⟩
  | map0 k => exact ⟨hmem, hrest⟩
  | map1 k => exact ⟨hmem, hrest⟩
  | bgAtlas k => exact ⟨hmem, hrest⟩
  | sprAtlas k => exact ⟨hmem, hrest⟩
  | hdma t r => exact ⟨hmem, hrest⟩

theorem Inv.access {s : State} (h : Inv s) (a : HostAccess) : Inv (s.access a) := by
  cases a with
  | read p => exact h.setHostData _
  | write p v => exact h.writePlace p v

theorem Inv.hostTurn {s t : State} (h : Inv s) (ht : hostTurn s = .next t) : Inv t := by
  unfold Machine.hostTurn at ht
  split at ht
  · cases ht
    exact h
  · next a rest _ =>
    split at ht
    · next c hc =>
      obtain ⟨v, rfl | rfl⟩ := hostCode_eq_some hc
      · rw [runCode_blank] at ht
        exact (h.setHost rest).execBlank ht
      · rw [runCode_render] at ht
        exact (h.setHost rest).execRender ht
    · cases ht
      exact (h.setHost rest).access a

/-! ### The obligation -/

/-- Settles O36: a step is a turn of the sequencer or of the host, and both keep the invariant. -/
theorem stepKeepsTheInvariant : Obligations.StepKeepsTheInvariant := by
  intro s t h ht
  rw [step_eq s h.dispatch_eq] at ht
  split at ht
  · exact h.busyTurn ht
  · exact h.hostTurn ht

end Sys2Proof.Machine
end

section
/-!
The host's plain accesses (`20_memory.md` R71, R73, R74, R79): what a step with one does, what a read returns after a write, and what a
write leaves alone; and the host's commands while BUSY = 1.
-/

namespace Sys2Proof.Machine

/-! ### A step with a plain access -/

/-- An idle step whose host's next access is no command performs it. -/
theorem step_plainAccess {s : State} {a : HostAccess} {rest : List HostAccess} (hidle : s.busy = 0#1) (hd : s.dispatch = none)
    (hhost : s.host = a :: rest) (hplain : hostCode a = none) : step s = .next ((s.setHost rest).access a) := by
  rw [step_idle s hd hidle, hostTurn, hhost]
  simp only [hplain]

/-- A write of any place but x[32] and x[35] is no command (`30_encoding.md` R119). -/
theorem hostCode_write_eq_none {p : Place} (v : Entry) (hblank : p ≠ .reg 32#6) (hrender : p ≠ .reg 35#6) :
    hostCode (.write p v) = none := by
  cases p with
  | reg n =>
    have hn : ¬(n = 32#6 ∨ n = 35#6) := by
      rintro (rfl | rfl)
      · exact hblank rfl
      · exact hrender rfl
    exact if_neg hn
  | _ => rfl

/-- What a place reads does not depend on the accesses still to come. -/
@[simp] theorem State.readPlace_setHost (s : State) (l : List HostAccess) (p : Place) :
    (s.setHost l).readPlace p = s.readPlace p := by
  cases p <;> rfl

/-- Settles O40: a read is a plain access. -/
theorem hostReadHasNoSideEffect : Obligations.HostReadHasNoSideEffect := by
  intro s p rest hidle hd hhost
  rw [step_plainAccess hidle hd hhost rfl, State.access, State.readPlace_setHost]

/-- Settles O45: a write that is no command is a plain access. -/
theorem hostWriteStoresItsEntry : Obligations.HostWriteStoresItsEntry := by
  intro s p v rest hidle hd hhost hblank hrender
  rw [step_plainAccess hidle hd hhost (hostCode_write_eq_none v hblank hrender), State.access]

/-! ### The host's commands while busy -/

theorem exec_render (v : Half) (s : State) : exec (.render v) s = execRender v s := by
  rfl

theorem exec_blank (v : Half) (s : State) : exec (.blank v) s = execBlank v s := by
  rfl

theorem execRender_of_busy (v : Half) {s : State} (hbusy : s.busy = 1#1) : execRender v s = .refused .hostAccessWhileBusy :=
  if_pos hbusy

theorem execBlank_of_busy (v : Half) {s : State} (hbusy : s.busy = 1#1) : execBlank v s = .refused .hostAccessWhileBusy :=
  if_pos hbusy

/-- Settles O27: both commands look at BUSY first (log 11). -/
theorem hostCommandsAreRefusedWhileBusy : Obligations.HostCommandsAreRefusedWhileBusy := by
  intro v s hbusy
  rw [exec_render, exec_blank]
  exact ⟨execRender_of_busy v hbusy, execBlank_of_busy v hbusy⟩

/-! ### What a write leaves alone -/

/-- A host write of entry `h` of x[34] changes the entry's bits below `FB_AW` to those of the datum (`10_state.md` R21, R44). -/
theorem State.writeBasePiece_truncate_testBit (s : State) (h j : Nat) (v : Entry) :
    (s.writeBasePiece h (v.truncate 16)).fbBase.testBit j =
      (decide (j < Config.fbAW) && if 16 * h ≤ j ∧ j < 16 * h + 16 then v.getLsbD (j - 16 * h) else s.fbBase.testBit j) := by
  rw [State.writeBasePiece_testBit]
  congr 1
  refine if_ctx_congr Iff.rfl (fun hentry => ?_) fun _ => rfl
  have hbit : j - 16 * h < 16 := by omega
  rw [BitVec.truncate, BitVec.getLsbD_setWidth, decide_eq_true hbit, Bool.true_and]

/-- Settles O50: a write outside the registers replaces one memory, and the lemmas on `writeReg` cover the registers. -/
theorem writePlaceChangesItsOwnSpaceOnly : Obligations.WritePlaceChangesItsOwnSpaceOnly := by
  intro s p v
  cases p with
  | reg n =>
    refine ⟨fun hstore => ?_, fun hbase => ?_, fun hnone => ?_⟩
    · have hwrite := s.writeReg_store v (n := n) (by omega)
      rw [State.writePlace, hwrite, State.setRegs_regs]
    · obtain rfl : n = 34#6 := BitVec.eq_of_toNat_eq hbase
      exact ⟨rfl, fun j => s.writeBasePiece_truncate_testBit 0 j v⟩
    · exact s.writeReg_ignored v (by omega) (by omega)
  | baseHigh h => exact ⟨rfl, fun j => s.writeBasePiece_truncate_testBit (h + 1) j v⟩
  | oam i w => rfl
  | map0 k => rfl
  | map1 k => rfl
  | bgAtlas k => rfl
  | sprAtlas k => rfl
  | hdma t r => rfl

/-! ### The entries of x[34] after a write of one -/

/-- The written entry reads as the datum's 16 bits, without those beyond `FB_AW`. -/
theorem State.basePiece_writeBasePiece_same (s : State) (h : Nat) (v : Entry) :
    (basePiece (s.writeBasePiece h (v.truncate 16)).fbBase h).zeroExtend 32 =
      BitVec.ofNat 32 (v.toNat % 2 ^ 16 * 2 ^ (16 * h) % 2 ^ Config.fbAW / 2 ^ (16 * h)) := by
  apply BitVec.eq_of_getLsbD_eq
  intro i hi
  have hshift : (v.toNat % 2 ^ 16 * 2 ^ (16 * h)).testBit (i + 16 * h) = (v.toNat % 2 ^ 16).testBit i := by
    rw [Nat.mul_comm, Nat.testBit_two_pow_mul, Nat.add_sub_cancel, decide_eq_true (Nat.le_add_left _ _), Bool.true_and]
  simp only [basePiece, BitVec.zeroExtend, BitVec.getLsbD_setWidth, BitVec.getLsbD_ofNat, Nat.testBit_div_two_pow,
    Nat.testBit_mod_two_pow, hshift, State.writeBasePiece_truncate_testBit, hi, decide_true, Bool.true_and]
  by_cases h16 : i < 16
  · have hentry : 16 * h ≤ i + 16 * h ∧ i + 16 * h < 16 * h + 16 := by omega
    rw [if_pos hentry, Nat.add_sub_cancel, decide_eq_true h16, Bool.true_and, Bool.true_and]
    rfl
  · rw [decide_eq_false h16, Bool.false_and, Bool.false_and, Bool.and_false]

/-- Every other entry of an FB_BASE of `FB_AW` bits reads as before. -/
theorem State.basePiece_writeBasePiece_other {s : State} (hbase : s.fbBase < 2 ^ Config.fbAW) {h k : Nat} (hk : k ≠ h) (v : Half) :
    basePiece (s.writeBasePiece h v).fbBase k = basePiece s.fbBase k := by
  apply BitVec.eq_of_getLsbD_eq
  intro i hi
  have hentry : ¬(16 * h ≤ i + 16 * k ∧ i + 16 * k < 16 * h + 16) := by omega
  simp only [basePiece, BitVec.getLsbD_ofNat, Nat.testBit_div_two_pow, State.writeBasePiece_testBit, if_neg hentry]
  by_cases hbits : i + 16 * k < Config.fbAW
  · rw [decide_eq_true hbits, Bool.true_and]
  · have hzero : s.fbBase.testBit (i + 16 * k) = false :=
      Nat.testBit_lt_two_pow (hbase.trans_le (Nat.pow_le_pow_right (by decide) (by omega)))
    rw [hzero, Bool.and_false]

/-- What any place reads after a write of an entry of x[34] above its first (`20_memory.md` R74, log 10). -/
theorem State.readPlace_writePlace_baseHigh {s : State} (hbase : s.fbBase < 2 ^ Config.fbAW) (h : Nat) (q : Place) (v : Entry) :
    (s.writePlace (.baseHigh h) v).readPlace q =
      if q = .baseHigh h then
        BitVec.ofNat 32 (v.toNat % 2 ^ 16 * 2 ^ (16 * (h + 1)) % 2 ^ Config.fbAW / 2 ^ (16 * (h + 1)))
      else s.readPlace q := by
  cases q with
  | baseHigh k =>
    by_cases hk : k = h
    · subst hk
      rw [if_pos rfl]
      exact s.basePiece_writeBasePiece_same (k + 1) v
    · rw [if_neg fun heq => hk (Place.baseHigh.inj heq), State.writePlace, State.readPlace, State.readPlace,
        State.basePiece_writeBasePiece_other hbase (by omega)]
  | reg n =>
    rw [if_neg nofun]
    by_cases hn : n = 34#6
    · subst hn
      have hfirst := State.basePiece_writeBasePiece_other hbase (Nat.succ_ne_zero h).symm (v.truncate 16)
      exact congrArg (BitVec.zeroExtend 32) hfirst
    · exact s.readReg_setFbBase _ hn
  | _ => exact (if_neg nofun).symm

/-! ### The entries of a memory after a write of one -/

/-- The data port after a read of a 16-bit entry, one entry having been written: `written` says that the entry read is that one. -/
theorem Mem.half_setHalf_zeroExtend {m : Mem} (hm : Mem.wf storeDefault m) {i j : Nat} (v : Half) {written : Prop}
    [Decidable written] (hindex : written ↔ j = i) :
    (Mem.half (Mem.setHalf storeDefault m i v) j).zeroExtend 32 =
      if written then v.zeroExtend 32 else (Mem.half m j).zeroExtend 32 := by
  rw [Mem.half_setHalf hm, apply_ite (BitVec.zeroExtend 32), if_congr hindex rfl rfl]

/-- An OAM word's index names it (`10_state.md` R50). -/
theorem Place.oam_eq_iff (i j : Byte) (w u : Fin 5) :
    Place.oam j u = .oam i w ↔ 5 * j.toNat + u.val = 5 * i.toNat + w.val := by
  constructor
  · rintro ⟨⟩
    rfl
  · intro h
    obtain rfl : j = i := BitVec.eq_of_toNat_eq (by omega)
    obtain rfl : u = w := Fin.ext (by omega)
    rfl

/-- An HDMA entry's index names its table and row (`40_hdma.md` R141). -/
theorem Place.hdma_eq_iff (t t' : BitVec 3) (r r' : Fin 240) :
    Place.hdma t' r' = .hdma t r ↔ hdmaIndex t'.toNat r'.val = hdmaIndex t.toNat r.val := by
  constructor
  · rintro ⟨⟩
    rfl
  · intro h
    simp only [hdmaIndex, Config.hdmaLen] at h
    obtain rfl : t' = t := BitVec.eq_of_toNat_eq (by omega)
    obtain rfl : r' = r := Fin.ext (by omega)
    rfl

/-- Settles O42: a place of the written space is told by its index; every other space is the same data. -/
theorem entryReadsBackAsWritten : Obligations.EntryReadsBackAsWritten := by
  intro s p q v ⟨⟨hoam, _⟩, ⟨hmap0, _⟩, ⟨hmap1, _⟩, ⟨hbg, _⟩, ⟨hspr, _⟩, _⟩ hnotReg hbase
  cases p with
  | reg n => exact absurd rfl (hnotReg n)
  | baseHigh h => exact State.readPlace_writePlace_baseHigh (hbase h rfl) h q v
  | oam i w =>
    cases q with
    | oam j u => exact Mem.half_setHalf_zeroExtend hoam _ (Place.oam_eq_iff i j w u)
    | _ => exact (if_neg nofun).symm
  | map0 k =>
    cases q with
    | map0 j => exact Mem.half_setHalf_zeroExtend hmap0 _ (by rw [Place.map0.injEq, BitVec.toNat_inj])
    | _ => exact (if_neg nofun).symm
  | map1 k =>
    cases q with
    | map1 j => exact Mem.half_setHalf_zeroExtend hmap1 _ (by rw [Place.map1.injEq, BitVec.toNat_inj])
    | _ => exact (if_neg nofun).symm
  | bgAtlas k =>
    cases q with
    | bgAtlas j => exact Mem.half_setHalf_zeroExtend hbg _ (by rw [Place.bgAtlas.injEq, BitVec.toNat_inj])
    | _ => exact (if_neg nofun).symm
  | sprAtlas k =>
    cases q with
    | sprAtlas j => exact Mem.half_setHalf_zeroExtend hspr _ (by rw [Place.sprAtlas.injEq, BitVec.toNat_inj])
    | _ => exact (if_neg nofun).symm
  | hdma t r =>
    cases q with
    | hdma t' r' =>
      exact (Mem.entry_setEntry _ _ _ _).trans (if_congr (Place.hdma_eq_iff t t' r r').symm rfl rfl)
    | _ => exact (if_neg nofun).symm

end Sys2Proof.Machine
end

section
/-!
The frame buffer after the render of a section (`20_memory.md` R78, `43_composition.md` R232): the section's rows store one run of
14400 pixels from FB_BASE on.
-/

namespace Sys2Proof.Machine

/-! ### One row -/

/-- Runs of pixels stored end to end are one run. -/
theorem Mem.storePixels_append (m : Mem) (a : Nat) (ps qs : List Pixel) :
    Mem.storePixels m a (ps ++ qs) = Mem.storePixels (Mem.storePixels m a ps) (a + ps.length) qs := by
  induction ps generalizing m a with
  | nil => rfl
  | cons p ps ih =>
    rw [List.cons_append, Mem.storePixels, ih, Mem.storePixels, List.length_cons, Nat.add_assoc, Nat.add_comm 1]

/-- A scanline microcode stores its 240 pixels as a run, from its row's first address on (R233). -/
theorem composeRow_fb (k : BitVec 6) (s : State) : ∃ ps : List Pixel, ps.length = 240 ∧
    (composeRow k s).fb = Mem.storePixels s.fb (s.fbLatch + 240 * s.rowInSection) ps := by
  obtain ⟨m, b, hlines⟩ := composeLayers_lines k s
  obtain ⟨o, hout⟩ := stageCmath_out k (composeLayers k s)
  refine ⟨o, ?_, ?_⟩
  · have hlength := stageCmath_out_length k (composeLayers k s)
    rwa [hout] at hlength
  · rw [composeRow, hout, hlines]
    rfl

@[simp] theorem composeRow_fbLatch (k : BitVec 6) (s : State) : (composeRow k s).fbLatch = s.fbLatch := by
  rw [composeRow_frame]; rfl

@[simp] theorem prepareRow_fb (s : State) : (prepareRow s).fb = s.fb := by
  rw [prepareRow_frame]; rfl

@[simp] theorem prepareRow_fbLatch (s : State) : (prepareRow s).fbLatch = s.fbLatch := by
  rw [prepareRow_frame]; rfl

/-- The HDMA phase of a row changes the State Store registers and `pc` only. -/
theorem hdmaTurns_parts (row n : Nat) (s : State) : ∃ r p, hdmaTurns row n s = (s.setRegs r).setPc p := by
  induction n with
  | zero => exact ⟨s.regs, _, rfl⟩
  | succ n ih =>
    obtain ⟨r, p, h⟩ := ih
    obtain ⟨r', h'⟩ := hdmaApplyTable_parts row n (hdmaTurns row n s)
    exact ⟨r', _, by rw [hdmaTurns_succ, h', h]; rfl⟩

@[simp] theorem hdmaApply_fb (row : Nat) (s : State) : (hdmaApply row s).fb = s.fb := by
  obtain ⟨r, p, h⟩ := hdmaTurns_parts row 8 s
  rw [hdmaApply_eq_hdmaTurns, h]; rfl

@[simp] theorem hdmaApply_fbLatch (row : Nat) (s : State) : (hdmaApply row s).fbLatch = s.fbLatch := by
  obtain ⟨r, p, h⟩ := hdmaTurns_parts row 8 s
  rw [hdmaApply_eq_hdmaTurns, h]; rfl

@[simp] theorem renderRow_fbLatch (row : Nat) (s : State) : (renderRow row s).fbLatch = s.fbLatch := by
  rw [renderRow_eq, composeRow_fbLatch, prepareRow_fbLatch, hdmaApply_fbLatch]

/-- Row `n` of a section is stored from `B + 240 * n` on (`20_memory.md` R78). -/
theorem renderRow_fb {t n : Nat} (ht : t < 4) (hn : n < 60) (s : State) : ∃ ps : List Pixel, ps.length = 240 ∧
    (renderRow (60 * t + n) s).fb = Mem.storePixels s.fb (s.fbLatch + 240 * n) ps := by
  have hrow := renderRow_rowInSection ht hn s
  rw [renderRow_eq] at hrow ⊢
  obtain ⟨ps, hlength, hfb⟩ := composeRow_fb (mainKeyOf (hdmaApply (60 * t + n) s).regs.mainFlags)
    (prepareRow (hdmaApply (60 * t + n) s))
  rw [State.rowInSection, State.row, composeRow_pc] at hrow
  rw [State.rowInSection, State.row, hrow, prepareRow_fb, prepareRow_fbLatch, hdmaApply_fb, hdmaApply_fbLatch] at hfb
  exact ⟨ps, hlength, hfb⟩

/-! ### The section -/

@[simp] theorem renderFirstRows_fbLatch (t n : Nat) (s : State) : (renderFirstRows t n s).fbLatch = s.fbLatch := by
  induction n with
  | zero => rfl
  | succ n ih => rw [renderFirstRows_succ, renderRow_fbLatch, ih]

/-- The first `n` rows of a section are stored as one run from the latched base on. -/
theorem renderFirstRows_fb {t : Nat} (ht : t < 4) (s : State) (n : Nat) (hn : n ≤ 60) : ∃ ps : List Pixel, ps.length = 240 * n ∧
    (renderFirstRows t n s).fb = Mem.storePixels s.fb s.fbLatch ps := by
  induction n with
  | zero => exact ⟨[], rfl, rfl⟩
  | succ n ih =>
    obtain ⟨ps, hps, hfb⟩ := ih (by omega)
    obtain ⟨qs, hqs, hrow⟩ := renderRow_fb ht (by omega : n < 60) (renderFirstRows t n s)
    refine ⟨ps ++ qs, by rw [List.length_append]; omega, ?_⟩
    rw [renderFirstRows_succ, hrow, hfb, renderFirstRows_fbLatch, Mem.storePixels_append, hps]

/-- A section is stored as one run of 14400 pixels from FB_BASE on. -/
theorem renderSection_fb {t : Nat} (ht : t < 4) (s : State) : ∃ ps : List Pixel, ps.length = 14400 ∧
    (renderSection t s).fb = Mem.storePixels s.fb s.fbBase ps := by
  obtain ⟨ps, hlength, hfb⟩ := renderFirstRows_fb ht ((s.setBusy 1#1).setFbLatch s.fbBase) 60 le_rfl
  refine ⟨ps, hlength, ?_⟩
  rw [renderSection, State.setBusy_fb, renderRows_eq_renderFirstRows, hfb, State.setFbLatch_fb, State.setBusy_fb,
    State.setFbLatch_fbLatch]

/-- A section's pixels have an address each, whatever `FB_AW` is (`92_eei_decisions.md` D26). -/
theorem sectionPixels_le : 14400 ≤ 2 ^ Config.fbAW :=
  (show 14400 ≤ 2 ^ 14 by decide).trans (Nat.pow_le_pow_right (by decide) (Nat.le_add_right _ _))

/-- Settles O32: what is stored and what is left alone by the one run of the section. -/
theorem sectionStoresItsRegionAndNothingElse : Obligations.SectionStoresItsRegionAndNothingElse := by
  intro s t ht
  obtain ⟨ps, hlength, hfb⟩ := renderSection_fb ht s
  rw [hfb]
  refine ⟨fun k hk => ?_, fun a ha => ?_⟩
  · have hfit : ps.length ≤ 2 ^ Config.fbAW := hlength.trans_le sectionPixels_le
    rw [← fbWrap_eq, Mem.pixel?_storePixels _ _ _ hfit k (hk.trans_eq hlength.symm), Option.isSome_some]
  · apply Mem.pixel?_storePixels_other
    intro k hk
    rw [fbWrap_eq]
    exact ha k (hk.trans_eq hlength)

end Sys2Proof.Machine
end

section
/-!
The encodings of `30_encoding.md`: what the key tables and the tags decode to, the decoder and the encoder as each other's
inverse, and the rows of the opcode table as disjoint sets of words (R121).
-/

namespace Sys2Proof

/-! ### The key tables -/

/-- The instruction stands for an encoding, and `c` is its word. -/
def Instr.EncodesAs (i : Instr) (c : Code) : Prop := i.wf = true ∧ encode i = c

/-- A table that lists the words `c 0`, `c 1`, … in this order has the instruction of `c k` at `k`. -/
theorem encodesAs_getD {α : Type} {l : List α} {n : Nat} (f : α → Instr) (c : Nat → Code)
    (h : l.map (fun a => ((f a).wf, encode (f a))) = (List.range n).map fun k => (true, c k))
    (d : α) {k : Nat} (hk : k < n) : (f (l.getD k d)).EncodesAs (c k) := by
  have hlen : l.length = n := by simpa using congrArg List.length h
  have hget : (f l[k]).wf = true ∧ encode (f l[k]) = c k := by simpa [hlen, hk] using congrArg (·[k]?) h
  rwa [List.getD_eq_getElem _ _ (hlen ▸ hk)]

/-- The scanline microcodes stand in the order of their keys (`30_encoding.md` R111). -/
theorem scanTable_encodesAs {k : Nat} (hk : k < 64) :
    (scanTable.getD k .scan00).EncodesAs (.mainKey (BitVec.ofNat 8 k)) :=
  encodesAs_getD id (fun k => .mainKey (BitVec.ofNat 8 k)) rfl _ hk

/-- The blit microcodes stand in the order of their keys, which lie in bits 5:2 (R113). -/
theorem sprTable_encodesAs (i : Byte) {k : Nat} (hk : k < 16) :
    (sprTable.getD k .sprblit0 i).EncodesAs (.sprKey i (BitVec.ofNat 8 (4 * k))) :=
  encodesAs_getD (fun m : Byte → Instr => m i) (fun k => .sprKey i (BitVec.ofNat 8 (4 * k))) rfl _ hk

set_option maxRecDepth 4000 in
/-- The colour-math microcodes stand in the order of their keys (R112). -/
theorem cmathTable_encodesAs {k : Nat} (hk : k < 256) :
    (cmathTable.getD k .cmath00).EncodesAs (.cmathKey (BitVec.ofNat 8 k)) :=
  encodesAs_getD id (fun k => .cmathKey (BitVec.ofNat 8 k)) rfl _ hk

/-- The window nibble functions stand in the order of their nibbles (R114). -/
theorem winTable_encodesAs {k : Nat} (hk : k < 16) :
    (winTable.getD k .winnib0).EncodesAs (.winNib (BitVec.ofNat 8 k)) :=
  encodesAs_getD id (fun k => .winNib (BitVec.ofNat 8 k)) rfl _ hk

/-- The three key fields as the bits they are of their byte (R111, R113, R114): each a fact about 256 bytes. -/
theorem ofNat_mainKeyOf : ∀ b : Byte, BitVec.ofNat 8 (mainKeyOf b).toNat = b &&& 0x3F#8 := by decide

theorem ofNat_sprKeyOf : ∀ b : Byte, BitVec.ofNat 8 (4 * (sprKeyOf b).toNat) = b &&& 0x3C#8 := by decide

theorem ofNat_winNibOf : ∀ b : Byte, BitVec.ofNat 8 (winNibOf b).toNat = b &&& 0x0F#8 := by decide

/-! ### The tags -/

/-- A block of reserved tags (R104, R121) and the instruction of its row. -/
structure ReservedBlock where
  lo : Nat
  hi : Nat
  instr : Half → Half → Instr

/-- The reserved blocks of the opcode table. -/
def reservedBlocks : List ReservedBlock :=
  [⟨21, 21, .hdmaRsvd21⟩, ⟨22, 23, .hdmaRsvd22⟩, ⟨24, 31, .hdmaRsvd24⟩, ⟨32, 63, .hdmaRsvd32⟩, ⟨64, 127, .hdmaRsvd64⟩,
   ⟨128, 255, .hdmaRsvd128⟩, ⟨256, 511, .hdmaRsvd256⟩, ⟨512, 1023, .hdmaRsvd512⟩, ⟨1024, 2047, .hdmaRsvd1024⟩,
   ⟨2048, 4095, .hdmaRsvd2048⟩, ⟨4096, 8191, .hdmaRsvd4096⟩, ⟨8192, 16383, .hdmaRsvd8192⟩,
   ⟨16384, 32767, .hdmaRsvd16384⟩, ⟨32768, 65535, .hdmaRsvd32768⟩]

/-- Every tag from 21 on lies in a reserved block. -/
theorem exists_reservedBlock {tag : Half} (h : 21 ≤ tag.toNat) :
    ∃ b ∈ reservedBlocks, tagIn b.lo b.hi tag = true := by
  have hlt : tag.toNat < 65536 := tag.isLt
  simp only [reservedBlocks, List.exists_mem_cons_iff, tagIn_iff]
  omega

/-- A tag of a reserved block is read as the block's instruction. -/
theorem hdmaInstr_reservedBlock {b : ReservedBlock} (hb : b ∈ reservedBlocks) {tag : Half}
    (h : tagIn b.lo b.hi tag = true) (value : Half) : hdmaInstr tag value = b.instr tag value := by
  rw [tagIn_iff] at h
  have hlo : 21 ≤ b.lo := (by decide : ∀ b ∈ reservedBlocks, 21 ≤ b.lo) b hb
  unfold hdmaInstr
  split
  case h_22 =>
    clear * - hb h
    fin_cases hb <;> (dsimp only at h; simp (disch := omega) only [if_pos, if_neg])
  all_goals omega

theorem ReservedBlock.encodesAs {b : ReservedBlock} (hb : b ∈ reservedBlocks) {tag : Half}
    (h : tagIn b.lo b.hi tag = true) (value : Half) : (b.instr tag value).EncodesAs (.hdma (entryOf tag value)) := by
  fin_cases hb <;> exact ⟨h, rfl⟩

/-- Whatever its tag, an entry is read as an instruction that it is the word of (R101 to R104). -/
theorem hdmaInstr_encodesAs (tag value : Half) : (hdmaInstr tag value).EncodesAs (.hdma (entryOf tag value)) := by
  rcases Nat.lt_or_ge tag.toNat 21 with h | h
  · obtain ⟨n, hn⟩ : ∃ n, tag.toNat = n := ⟨_, rfl⟩
    obtain rfl : tag = BitVec.ofNat 16 n := by rw [← hn]; simp
    have hn : n < 21 := by omega
    interval_cases n <;> exact ⟨rfl, rfl⟩
  · obtain ⟨b, hb, htag⟩ := exists_reservedBlock h
    rw [hdmaInstr_reservedBlock hb htag]
    exact b.encodesAs hb htag value

/-! ### The decoder and the encoder -/

/-- The word without the bits that its format ignores (R111, R113, R114). -/
def Code.clearIgnored : Code → Code
  | .hdma e => .hdma e
  | .mainKey b => .mainKey (b &&& 0x3F#8)
  | .sprKey i b => .sprKey i (b &&& 0x3C#8)
  | .cmathKey b => .cmathKey b
  | .winNib b => .winNib (b &&& 0x0F#8)
  | .hostWrite n v => .hostWrite n v

/-- A word is read as an instruction that it is the word of, but for the bits that its format ignores. -/
theorem encodesAs_of_decode {c : Code} {i : Instr} (h : decode c = .ok i) : i.EncodesAs c.clearIgnored := by
  cases c with
  | hdma e =>
    obtain rfl := Except.ok.inj h
    have he := hdmaInstr_encodesAs (entryTag e) (entryValue e)
    rwa [entryOf_halves] at he
  | mainKey b =>
    obtain rfl := Except.ok.inj h
    rw [Code.clearIgnored, ← ofNat_mainKeyOf]
    exact scanTable_encodesAs (mainKeyOf b).isLt
  | sprKey n b =>
    obtain rfl := Except.ok.inj h
    rw [Code.clearIgnored, ← ofNat_sprKeyOf]
    exact sprTable_encodesAs n (sprKeyOf b).isLt
  | cmathKey b =>
    obtain rfl := Except.ok.inj h
    have hb := cmathTable_encodesAs b.isLt
    rwa [BitVec.ofNat_toNat, BitVec.setWidth_eq] at hb
  | winNib b =>
    obtain rfl := Except.ok.inj h
    rw [Code.clearIgnored, ← ofNat_winNibOf]
    exact winTable_encodesAs (winNibOf b).isLt
  | hostWrite n v =>
    rw [decode] at h
    split_ifs at h with hrender hblank
    · obtain rfl := Except.ok.inj h
      exact ⟨rfl, by rw [hrender]; rfl⟩
    · obtain rfl := Except.ok.inj h
      exact ⟨rfl, by rw [hblank]; rfl⟩

theorem decode_hdma_entryOf (tag value : Half) : decode (.hdma (entryOf tag value)) = .ok (hdmaInstr tag value) := by
  rw [decode, entryTag_entryOf, entryValue_entryOf]

/-- The entry of a reserved tag is read as the instruction of the tag's block (R104). -/
theorem decode_reservedBlock (b : ReservedBlock) (hb : b ∈ reservedBlocks) {tag value : Half}
    (h : tagIn b.lo b.hi tag = true) : decode (.hdma (entryOf tag value)) = .ok (b.instr tag value) := by
  rw [decode_hdma_entryOf, hdmaInstr_reservedBlock hb h]

/-- Settles O1: a command's tag is one of 21 numbers, a reserved tag lies in its block, and the other words have no operand in their
bits but a host command's value, so that the decoder evaluates on them. -/
theorem decodeOfEncodeIsTheInstruction : Obligations.DecodeOfEncodeIsTheInstruction := by
  intro i hwf
  cases i with
  | hdmaNop value | hdmaWMainColour value | hdmaWSubColour value | hdmaWWin1Left value | hdmaWWin1Right value
  | hdmaWWin2Left value | hdmaWWin2Right value | hdmaWBgcolWindows value | hdmaWMainFlags value | hdmaWCmathFade value
  | hdmaWCmathFlags value | hdmaWBg0X value | hdmaWBg0Y value | hdmaWBg0Windows value | hdmaWBg0Flags value
  | hdmaWBg1X value | hdmaWBg1Y value | hdmaWBg1Windows value | hdmaWBg1Flags value | hdmaWHdmaEnable value
  | hdmaDisable value => exact decode_hdma_entryOf _ value
  | hdmaRsvd21 => exact decode_reservedBlock ⟨21, 21, .hdmaRsvd21⟩ (by simp [reservedBlocks]) hwf
  | hdmaRsvd22 => exact decode_reservedBlock ⟨22, 23, .hdmaRsvd22⟩ (by simp [reservedBlocks]) hwf
  | hdmaRsvd24 => exact decode_reservedBlock ⟨24, 31, .hdmaRsvd24⟩ (by simp [reservedBlocks]) hwf
  | hdmaRsvd32 => exact decode_reservedBlock ⟨32, 63, .hdmaRsvd32⟩ (by simp [reservedBlocks]) hwf
  | hdmaRsvd64 => exact decode_reservedBlock ⟨64, 127, .hdmaRsvd64⟩ (by simp [reservedBlocks]) hwf
  | hdmaRsvd128 => exact decode_reservedBlock ⟨128, 255, .hdmaRsvd128⟩ (by simp [reservedBlocks]) hwf
  | hdmaRsvd256 => exact decode_reservedBlock ⟨256, 511, .hdmaRsvd256⟩ (by simp [reservedBlocks]) hwf
  | hdmaRsvd512 => exact decode_reservedBlock ⟨512, 1023, .hdmaRsvd512⟩ (by simp [reservedBlocks]) hwf
  | hdmaRsvd1024 => exact decode_reservedBlock ⟨1024, 2047, .hdmaRsvd1024⟩ (by simp [reservedBlocks]) hwf
  | hdmaRsvd2048 => exact decode_reservedBlock ⟨2048, 4095, .hdmaRsvd2048⟩ (by simp [reservedBlocks]) hwf
  | hdmaRsvd4096 => exact decode_reservedBlock ⟨4096, 8191, .hdmaRsvd4096⟩ (by simp [reservedBlocks]) hwf
  | hdmaRsvd8192 => exact decode_reservedBlock ⟨8192, 16383, .hdmaRsvd8192⟩ (by simp [reservedBlocks]) hwf
  | hdmaRsvd16384 => exact decode_reservedBlock ⟨16384, 32767, .hdmaRsvd16384⟩ (by simp [reservedBlocks]) hwf
  | hdmaRsvd32768 => exact decode_reservedBlock ⟨32768, 65535, .hdmaRsvd32768⟩ (by simp [reservedBlocks]) hwf
  | _ => rfl

/-- Settles O3: a key byte's instruction has the byte without its ignored bits as its word. -/
theorem everyKeyDecodesToItsKeyBits : Obligations.EveryKeyDecodesToItsKeyBits :=
  ⟨fun b => ⟨_, rfl, (encodesAs_of_decode (c := .mainKey b) rfl).2⟩,
   fun n b => ⟨_, rfl, (encodesAs_of_decode (c := .sprKey n b) rfl).2⟩,
   fun b => ⟨_, rfl, (encodesAs_of_decode (c := .cmathKey b) rfl).2⟩,
   fun b => ⟨_, rfl, (encodesAs_of_decode (c := .winNib b) rfl).2⟩,
   fun _ => ⟨rfl, rfl⟩⟩

/-- Settles O5: the decoder evaluates on each word. -/
theorem wordsOfTheSpecDecode : Obligations.WordsOfTheSpecDecode :=
  ⟨rfl, rfl, rfl, rfl, rfl, rfl, rfl, rfl, rfl, rfl, rfl, rfl⟩

/-! ### The rows of the opcode table -/

/-- The bits of a word that say its key; of a host write, whose register number stands outside its bits, none (R121). -/
def Format.keyMask : Format → Entry
  | .hdmaEntry => 0xFFFF#32
  | .mainKey => 0x3F#32
  | .sprKey => 0x3C#32
  | .cmathKey => 0xFF#32
  | .winNib => 0x0F#32
  | .hostWrite => 0#32

/-- The row of the HDMA command of tag `k`. -/
def commandRow (k : Nat) : OpcodeRow := ⟨.hdmaEntry, 0xFFFF#32, BitVec.ofNat 32 k⟩

/-- The row of a reserved block: the tag's bits but the low ones that number the block's tags. -/
def ReservedBlock.row (b : ReservedBlock) : OpcodeRow :=
  ⟨.hdmaEntry, BitVec.ofNat 32 (0xFFFF - (b.hi - b.lo)), BitVec.ofNat 32 b.lo⟩

/-- The rows of the HDMA entries. -/
def hdmaRows : List OpcodeRow := (List.range 21).map commandRow ++ reservedBlocks.map ReservedBlock.row

/-- Two HDMA rows that agree on the bits both look at are one row. -/
theorem hdmaRows_disjoint : ∀ r ∈ hdmaRows, ∀ q ∈ hdmaRows, r.pattern &&& q.mask = q.pattern &&& r.mask → r = q := by
  decide

/-- Every row is one of the HDMA rows or looks at the key bits of its format. -/
theorem row_mem_hdmaRows_or_mask (i : Instr) :
    i.row ∈ hdmaRows ∨ i.row.format ≠ .hdmaEntry ∧ i.row.mask = i.row.format.keyMask := by
  cases i with
  | hdmaNop | hdmaWMainColour | hdmaWSubColour | hdmaWWin1Left | hdmaWWin1Right | hdmaWWin2Left | hdmaWWin2Right
  | hdmaWBgcolWindows | hdmaWMainFlags | hdmaWCmathFade | hdmaWCmathFlags | hdmaWBg0X | hdmaWBg0Y | hdmaWBg0Windows
  | hdmaWBg0Flags | hdmaWBg1X | hdmaWBg1Y | hdmaWBg1Windows | hdmaWBg1Flags | hdmaWHdmaEnable | hdmaDisable
  | hdmaRsvd21 | hdmaRsvd22 | hdmaRsvd24 | hdmaRsvd32 | hdmaRsvd64 | hdmaRsvd128 | hdmaRsvd256 | hdmaRsvd512 | hdmaRsvd1024
  | hdmaRsvd2048 | hdmaRsvd4096 | hdmaRsvd8192 | hdmaRsvd16384 | hdmaRsvd32768 =>
    exact .inl (by decide : OpcodeRow.mk _ _ _ ∈ hdmaRows)
  | _ => exact .inr ⟨nofun, rfl⟩

theorem row_mem_hdmaRows {i : Instr} (h : i.row.format = .hdmaEntry) : i.row ∈ hdmaRows :=
  (row_mem_hdmaRows_or_mask i).resolve_right fun hkey => hkey.1 h

theorem row_mask {i : Instr} (h : i.row.format ≠ .hdmaEntry) : i.row.mask = i.row.format.keyMask := by
  rcases row_mem_hdmaRows_or_mask i with hmem | ⟨-, hmask⟩
  · exact absurd ((by decide : ∀ r ∈ hdmaRows, r.format = .hdmaEntry) _ hmem) h
  · exact hmask

/-- No two rows of one format overlap (R121). -/
theorem row_eq_of_holds {i j : Instr} {c : Code} (hi : i.row.holds c) (hj : j.row.holds c) : i.row = j.row := by
  obtain ⟨hif, hib⟩ := hi
  obtain ⟨hjf, hjb⟩ := hj
  by_cases hc : c.format = .hdmaEntry
  · refine hdmaRows_disjoint _ (row_mem_hdmaRows (hif ▸ hc)) _ (row_mem_hdmaRows (hjf ▸ hc)) ?_
    rw [← hib, ← hjb, BitVec.and_assoc, BitVec.and_assoc, BitVec.and_comm i.row.mask]
  · have hmask : i.row.mask = j.row.mask := by
      rw [row_mask (hif ▸ hc), row_mask (hjf ▸ hc), ← hif, ← hjf]
    rw [OpcodeRow.mk.injEq]
    exact ⟨hif.symm.trans hjf, hmask, by rw [← hib, ← hjb, hmask]⟩

/-- The word of a well-formed instruction lies in the instruction's row. -/
theorem row_holds_encode {i : Instr} (h : i.wf = true) : i.row.holds (encode i) := by
  cases i with
  | hdmaNop value | hdmaWMainColour value | hdmaWSubColour value | hdmaWWin1Left value | hdmaWWin1Right value
  | hdmaWWin2Left value | hdmaWWin2Right value | hdmaWBgcolWindows value | hdmaWMainFlags value | hdmaWCmathFade value
  | hdmaWCmathFlags value | hdmaWBg0X value | hdmaWBg0Y value | hdmaWBg0Windows value | hdmaWBg0Flags value
  | hdmaWBg1X value | hdmaWBg1Y value | hdmaWBg1Windows value | hdmaWBg1Flags value | hdmaWHdmaEnable value
  | hdmaDisable value => exact ⟨rfl, entryOf_full_mask _ value⟩
  | hdmaRsvd21 tag value => exact Laws.EncodesItsRow.hdmaRsvd21 tag value h
  | hdmaRsvd22 tag value => exact Laws.EncodesItsRow.hdmaRsvd22 tag value h
  | hdmaRsvd24 tag value => exact Laws.EncodesItsRow.hdmaRsvd24 tag value h
  | hdmaRsvd32 tag value => exact Laws.EncodesItsRow.hdmaRsvd32 tag value h
  | hdmaRsvd64 tag value => exact Laws.EncodesItsRow.hdmaRsvd64 tag value h
  | hdmaRsvd128 tag value => exact Laws.EncodesItsRow.hdmaRsvd128 tag value h
  | hdmaRsvd256 tag value => exact Laws.EncodesItsRow.hdmaRsvd256 tag value h
  | hdmaRsvd512 tag value => exact Laws.EncodesItsRow.hdmaRsvd512 tag value h
  | hdmaRsvd1024 tag value => exact Laws.EncodesItsRow.hdmaRsvd1024 tag value h
  | hdmaRsvd2048 tag value => exact Laws.EncodesItsRow.hdmaRsvd2048 tag value h
  | hdmaRsvd4096 tag value => exact Laws.EncodesItsRow.hdmaRsvd4096 tag value h
  | hdmaRsvd8192 tag value => exact Laws.EncodesItsRow.hdmaRsvd8192 tag value h
  | hdmaRsvd16384 tag value => exact Laws.EncodesItsRow.hdmaRsvd16384 tag value h
  | hdmaRsvd32768 tag value => exact Laws.EncodesItsRow.hdmaRsvd32768 tag value h
  | render v | blank v => exact ⟨rfl, BitVec.and_zero⟩
  | sprblit0 i => exact Laws.EncodesItsRow.sprblit0 i h
  | sprblit1 i => exact Laws.EncodesItsRow.sprblit1 i h
  | sprblit2 i => exact Laws.EncodesItsRow.sprblit2 i h
  | sprblit3 i => exact Laws.EncodesItsRow.sprblit3 i h
  | sprblit4 i => exact Laws.EncodesItsRow.sprblit4 i h
  | sprblit5 i => exact Laws.EncodesItsRow.sprblit5 i h
  | sprblit6 i => exact Laws.EncodesItsRow.sprblit6 i h
  | sprblit7 i => exact Laws.EncodesItsRow.sprblit7 i h
  | sprblit8 i => exact Laws.EncodesItsRow.sprblit8 i h
  | sprblit9 i => exact Laws.EncodesItsRow.sprblit9 i h
  | sprblit10 i => exact Laws.EncodesItsRow.sprblit10 i h
  | sprblit11 i => exact Laws.EncodesItsRow.sprblit11 i h
  | sprblit12 i => exact Laws.EncodesItsRow.sprblit12 i h
  | sprblit13 i => exact Laws.EncodesItsRow.sprblit13 i h
  | sprblit14 i => exact Laws.EncodesItsRow.sprblit14 i h
  | sprblit15 i => exact Laws.EncodesItsRow.sprblit15 i h
  | _ => exact ⟨rfl, rfl⟩

theorem clearIgnored_format (c : Code) : c.clearIgnored.format = c.format := by cases c <;> rfl

theorem setWidth_and_and (b m : Byte) :
    (b &&& m).setWidth 32 &&& m.setWidth 32 = b.setWidth 32 &&& m.setWidth 32 := by
  rw [BitVec.setWidth_and, BitVec.and_assoc, BitVec.and_self]

/-- The ignored bits of a byte are none of its key bits. -/
theorem clearIgnored_bits_and_keyMask (c : Code) :
    c.clearIgnored.bits &&& c.format.keyMask = c.bits &&& c.format.keyMask := by
  cases c with
  | mainKey b => exact setWidth_and_and b 0x3F#8
  | sprKey n b => exact setWidth_and_and b 0x3C#8
  | winNib b => exact setWidth_and_and b 0x0F#8
  | hdma | cmathKey | hostWrite => rfl

/-- No row looks at an ignored bit. -/
theorem row_holds_clearIgnored {i : Instr} {c : Code} : i.row.holds c.clearIgnored ↔ i.row.holds c := by
  rw [OpcodeRow.holds, OpcodeRow.holds, clearIgnored_format]
  refine and_congr_right fun hf => ?_
  by_cases hc : c.format = .hdmaEntry
  · cases c with
    | hdma e => rfl
    | _ => nomatch hc
  · rw [row_mask (hf ▸ hc), ← hf, clearIgnored_bits_and_keyMask]

/-- A word lies in the row of the instruction it is read as. -/
theorem row_holds_of_decode {c : Code} {i : Instr} (h : decode c = .ok i) : i.row.holds c := by
  obtain ⟨hwf, hencode⟩ := encodesAs_of_decode h
  rw [← row_holds_clearIgnored, ← hencode]
  exact row_holds_encode hwf

/-- Settles O4: the word lies in the row of the instruction it is read as too, and rows do not overlap. (The two host commands
have one row, the one of mask 0, so that host writes need no exception.) -/
theorem decoderFollowsTheOpcodeTable : Obligations.DecoderFollowsTheOpcodeTable :=
  fun _ _ _ _ hrow hdecode => row_eq_of_holds (row_holds_of_decode hdecode) hrow

end Sys2Proof
end

section
/-!
The HDMA commands of `40_hdma.md`: every entry is a command (R141), what each command stores or leaves alone (R142 to R163), the eight
turns of a row (R140); and the step as the run of the word it fetches, the sequencer's, the host's or one placed from outside.
-/

namespace Sys2Proof.Machine

/-! ### A command by its entry -/

theorem runCode_of_decode {c : Code} {i : Instr} (h : decode c = .ok i) (s : State) : runCode c s = exec i s := by
  rw [runCode, h]

/-- The instruction of an entry runs `HdmaExec` of the entry for the table `pc` names (R141). -/
theorem exec_of_encode_hdma {i : Instr} {e : Entry} (hwf : i.wf = true) (hword : encode i = .hdma e) (s : State) :
    exec i s = .next (hdmaExec s.pc.tbl.toNat e s) := by
  have hdecode := decodeOfEncodeIsTheInstruction i hwf
  rw [hword] at hdecode
  rw [← runCode_of_decode hdecode, runCode_hdma]

/-- Tags 1 to 19 write the register of their number (R143 to R161). -/
theorem hdmaExec_write (t : Nat) {e : Entry} (s : State) (h1 : 1 ≤ (entryTag e).toNat) (h19 : (entryTag e).toNat ≤ 19) :
    hdmaExec t e s = s.setRegs (s.regs.write (entryTag e).toNat (entryValue e)) :=
  if_pos ⟨h1, h19⟩

/-- Tag 0 and the reserved tags do nothing (R142, R163). -/
theorem hdmaExec_unchanged (t : Nat) {e : Entry} (s : State) (h : (entryTag e).toNat = 0 ∨ 21 ≤ (entryTag e).toNat) :
    hdmaExec t e s = s := by
  rw [hdmaExec, if_neg (by omega), if_neg (by omega)]

/-- A cleared mask is without table `t`'s bit and has every other bit it had (R162). -/
theorem tableCleared_getLsbD (m : Byte) (t : Nat) {j : Nat} (hj : j < 8) :
    (tableCleared m t).getLsbD j = (m.getLsbD j && decide (j ≠ t)) := by
  have hbit : ((1#8) <<< t).getLsbD j = decide (j = t) := by
    rw [BitVec.getLsbD_shiftLeft, BitVec.getLsbD_one, decide_eq_true hj, Bool.true_and]
    by_cases hlt : j < t
    · simp [hlt, hlt.ne]
    · simp [hlt]; omega
  rw [tableCleared, BitVec.getLsbD_and, BitVec.getLsbD_not, hbit, decide_eq_true hj, Bool.true_and, ← decide_not]

/-- `HDMA.DISABLE` clears the owning table's bit, whatever its value (R162). -/
theorem exec_hdmaDisable (value : Half) (s : State) : exec (.hdmaDisable value) s = .next (disableOwner s) := by
  rfl

/-- Settles O2: the decoder reads every entry, and what it reads has the entry as its word. -/
theorem everyEntryDecodesAndEncodesBack : Obligations.EveryEntryDecodesAndEncodesBack :=
  fun e => ⟨_, rfl, encodesAs_of_decode (c := .hdma e) rfl⟩

/-- Settles O6: the tag's number is the register's, and `Regs.read` after `Regs.write` is known number by number. -/
theorem hdmaWriteStoresItsRegisterOnly : Obligations.HdmaWriteStoresItsRegisterOnly := by
  intro i e s hwf hword h1 h19
  refine ⟨_, exec_of_encode_hdma hwf hword s, ?_⟩
  rw [hdmaExec_write _ s h1 h19]
  refine ⟨rfl, fun n => ?_⟩
  rw [State.setRegs_regs]
  split
  · next hn =>
    subst hn
    exact Regs.read_write_same _ _ _ h1 h19
  · next hn => exact Regs.read_write_other _ _ _ _ hn

/-- Settles O7: no branch of `HdmaExec` has a tag of 0 or of a reserved block. -/
theorem nopAndReservedTagsChangeNothing : Obligations.NopAndReservedTagsChangeNothing := by
  intro i e s hwf hword htag
  rw [exec_of_encode_hdma hwf hword, hdmaExec_unchanged _ s htag]

/-- Settles O8: the mask bit by bit. -/
theorem disableClearsItsOwnBitOnly : Obligations.DisableClearsItsOwnBitOnly :=
  fun value s => ⟨_, exec_hdmaDisable value s, rfl, fun _ hj => tableCleared_getLsbD s.regs.hdmaEnable s.pc.tbl.toNat hj⟩

/-! ### The turns of a row -/

/-- Settles O9: the eight turns of the row `pc` names. -/
theorem eightTurnsAreHdmaApply : Obligations.EightTurnsAreHdmaApply := by
  intro s hs htbl
  have hpc : s.pc = ⟨BitVec.ofNat 8 s.row, 0⟩ := by
    rw [State.row, BitVec.ofNat_toNat, BitVec.setWidth_eq]
    exact congrArg (Pc.mk s.pc.row) htbl
  exact runsTo_hdmaApply s.pc.row.isLt hs hpc

/-! ### The step as the run of its word -/

/-- During a row's HDMA phase a step is a table's turn. -/
theorem step_hdmaTurn {s : State} (hs : Rendering s) (htbl : s.pc.tbl.toNat < 8) : step s = hdmaTurn s := by
  rw [step_rendering hs, busyTurn, if_pos htbl]

/-- The turn of an enabled table runs the table's entry for the row and moves on to the next table (R140, R141). -/
theorem step_enabledTable {s : State} {i : Instr} (hs : Rendering s) (htbl : s.pc.tbl.toNat < 8)
    (henabled : tableEnabled s.regs.hdmaEnable s.pc.tbl.toNat = true) (hdecode : decode (.hdma s.currentEntry) = .ok i) :
    step s = onNext (exec i s) advanceTable := by
  rw [step_hdmaTurn hs htbl, hdmaTurn, if_pos henabled, runCode_of_decode hdecode]

/-- The turn of a disabled table moves on to the next table (R140). -/
theorem step_disabledTable {s : State} (hs : Rendering s) (htbl : s.pc.tbl.toNat < 8)
    (hdisabled : tableEnabled s.regs.hdmaEnable s.pc.tbl.toNat = false) : step s = .next (advanceTable s) := by
  rw [step_hdmaTurn hs htbl, hdmaTurn, hdisabled, if_neg Bool.false_ne_true]

/-- After the HDMA phase a step prepares the row, runs the main key's microcode and ends the row (R221, R303). -/
theorem step_compose {s : State} {i : Instr} (hs : Rendering s) (htbl : 8 ≤ s.pc.tbl.toNat)
    (hdecode : decode (.mainKey s.regs.mainFlags) = .ok i) : step s = onNext (exec i (prepareRow s)) finishRow := by
  rw [step_rendering hs, busyTurn, if_neg (by omega), composeTurn, runCode_of_decode hdecode]

/-- An idle step whose host's next access is a command runs it. -/
theorem step_hostCommand {s : State} {a : HostAccess} {rest : List HostAccess} {c : Code} (hidle : s.busy = 0#1)
    (hd : s.dispatch = none) (hhost : s.host = a :: rest) (hcode : hostCode a = some c) :
    step s = runCode c (s.setHost rest) := by
  rw [step_idle s hd hidle, hostTurn, hhost]
  simp only [hcode]

/-- Settles O28: each clause is the lemma on its kind of step. -/
theorem stepRunsTheDecodedInstruction : Obligations.StepRunsTheDecodedInstruction := by
  refine ⟨fun s c i hd hdecode => ?_, fun s i hs htbl henabled hdecode => step_enabledTable hs htbl henabled hdecode,
    fun s hs htbl hdisabled => step_disabledTable hs htbl hdisabled, fun s i hs htbl hdecode => step_compose hs htbl hdecode,
    fun s a rest c i hidle hd hhost hcode hdecode => ?_⟩
  · rw [step_dispatch s c hd, runCode_of_decode hdecode]
  · rw [step_hostCommand hidle hd hhost hcode, runCode_of_decode hdecode]

/-! ### A word placed for the next step -/

theorem decode_of_decodeTableWord {nbits w : Nat} {i : Instr} (h : decodeTableWord nbits w = some i) :
    decode (tableCode nbits w) = .ok i := by
  rw [decodeTableWord] at h
  split at h
  · next hdecode => rw [hdecode, Option.some.inj h]
  · cases h

/-- A word of more than eight bits is an HDMA entry (log 1). -/
theorem tableCode_of_gt {nbits : Nat} (h : 8 < nbits) (w : Nat) : tableCode nbits w = .hdma (BitVec.ofNat 32 w) := by
  rw [tableCode, if_neg (by omega), if_neg (by omega), if_neg (by omega)]
  exact congrArg Code.hdma (entryOfBytes_bytes _)

/-- A shorter word is a key and goes to `dispatch` (log 2). -/
theorem withFetchWord_of_le {nbits : Nat} (h : nbits ≤ 8) (w : Nat) (s : State) :
    s.withFetchWord nbits w = s.setDispatch (some (tableCode nbits w)) := by
  rw [State.withFetchWord, placeWord, tableCode]
  split_ifs <;> rfl

/-- `s` with an entry in the table whose turn the next fetch is, the table enabled and a render in progress (log 15). -/
def State.withFetchEntry (s : State) (e : Entry) : State :=
  ((((((s.setDispatch none).setHost []).setBusy 1#1).setPc ⟨s.pc.row, fetchTable s⟩).setRegs
    { s.regs with hdmaEnable := s.regs.hdmaEnable ||| ((1#8) <<< (fetchTable s).toNat) }).setHdma
      (Mem.setEntry s.hdma (hdmaIndex (fetchTable s).toNat s.row) e))

theorem withFetchWord_of_gt {nbits : Nat} (h : 8 < nbits) (w : Nat) (s : State) :
    s.withFetchWord nbits w = s.withFetchEntry (BitVec.ofNat 32 w) := by
  rw [State.withFetchWord, placeWord, tableCode_of_gt h]
  rfl

theorem rendering_withFetchEntry (s : State) (e : Entry) : Rendering (s.withFetchEntry e) := ⟨rfl, rfl, rfl⟩

theorem fetchTable_lt (s : State) : (fetchTable s).toNat < 8 := by
  rw [fetchTable]
  split
  · assumption
  · decide

/-- The fetched table's bit is set in the mask. -/
theorem tableEnabled_withFetchEntry (s : State) (e : Entry) :
    tableEnabled (s.withFetchEntry e).regs.hdmaEnable (s.withFetchEntry e).pc.tbl.toNat = true := by
  have hlt := fetchTable_lt s
  show (s.regs.hdmaEnable ||| ((1#8) <<< (fetchTable s).toNat)).getLsbD (fetchTable s).toNat = true
  rw [BitVec.getLsbD_or, BitVec.getLsbD_shiftLeft]
  simp [hlt]

/-- The next fetch reads the placed entry. -/
theorem currentEntry_withFetchEntry (s : State) (e : Entry) : (s.withFetchEntry e).currentEntry = e := by
  show Mem.entry (Mem.setEntry s.hdma (hdmaIndex (fetchTable s).toNat s.row) e) (hdmaIndex (fetchTable s).toNat s.row) = e
  rw [Mem.entry_setEntry, if_pos rfl]

/-- Settles O29: up to eight bits the word is dispatched singly, and beyond them it is the entry of an enabled table's turn. -/
theorem nextStepRunsThePlacedWord : Obligations.NextStepRunsThePlacedWord := by
  intro s nbits w i hword
  have hdecode := decode_of_decodeTableWord hword
  split
  · next hle =>
    rw [withFetchWord_of_le hle, step_dispatch _ _ rfl, runCode_of_decode hdecode]
    rfl
  · next hgt =>
    have hgt : 8 < nbits := by omega
    rw [tableCode_of_gt hgt] at hdecode
    rw [withFetchWord_of_gt hgt]
    refine step_enabledTable (rendering_withFetchEntry s _) (fetchTable_lt s) (tableEnabled_withFetchEntry s _) ?_
    rw [currentEntry_withFetchEntry, hdecode]

end Sys2Proof.Machine
end

section
/-!
The sprite cache (`41_sprite_cache.md`): the admission test on integers (R181) and what the scan of R180 leaves in the two lists (R182,
R183, R185).
-/

namespace Sys2Proof.Machine

/-! ### Admission -/

theorem legalSize_iff (n : Byte) : legalSize n = true ↔ n = 8#8 ∨ n = 16#8 := by
  simp only [legalSize, Bool.or_eq_true, beq_iff_eq]

/-- A size in screen pixels, as a product on integers (R181). -/
theorem screenSize_eq_mul (n : Byte) (dbl : Bool) : (screenSize n dbl : Int) = (if dbl then 2 else 1) * (n.toNat : Int) := by
  cases dbl
  · exact (one_mul _).symm
  · exact Nat.cast_mul 2 _

/-- Settles O14: the tests of `admitted` are R181's, with the doubling read as a product. -/
theorem admitIsTheBoundingBoxTest : Obligations.AdmitIsTheBoundingBoxTest := by
  intro S row
  simp only [admitted, sprDouble, screenSize_eq_mul, Bool.and_eq_true, decide_eq_true_eq, legalSize_iff, and_assoc]

/-! ### The scan, list by list -/

/-- One turn of the scan on the list of one class: index `i` is added when the list has room and `p` admits `i` (R180). -/
def addIfRoom (p : Byte → Bool) (l : List Byte) (i : Byte) : List Byte :=
  if l.length < Config.cacheSlots ∧ p i = true then l ++ [i] else l

/-- A sprite has one class, so it is culled into one list at most (R182). -/
theorem not_cullable_true_of_cullable_false {s : State} {row : Nat} {i : Byte} (h : cullable s row false i = true) :
    ¬cullable s row true i = true := by
  simp only [cullable, Bool.and_eq_true, beq_iff_eq] at h ⊢
  obtain ⟨⟨⟨_, hclass⟩, _⟩, _⟩ := h
  simp [hclass]

/-- The scan treats the two lists independently: stopping early, when both are full, adds to neither. -/
theorem cullStep_eq_addIfRoom (s : State) (row : Nat) (acc : List Byte × List Byte) (i : Byte) :
    cullStep s row acc i = (addIfRoom (cullable s row false) acc.1 i, addIfRoom (cullable s row true) acc.2 i) := by
  simp only [cullStep, addIfRoom, Bool.and_eq_true, decide_eq_true_eq]
  split
  · next hfull => rw [if_neg (by omega), if_neg (by omega)]
  split
  · next h0 => rw [if_neg fun h1 => not_cullable_true_of_cullable_false h0.2 h1.2]
  split <;> rfl

/-- The whole scan, likewise, scans into each list by itself. -/
theorem foldl_cullStep (s : State) (row : Nat) (is : List Byte) (a b : List Byte) :
    is.foldl (cullStep s row) (a, b) =
      (is.foldl (addIfRoom (cullable s row false)) a, is.foldl (addIfRoom (cullable s row true)) b) := by
  induction is generalizing a b with
  | nil => rfl
  | cons i is ih => rw [List.foldl_cons, cullStep_eq_addIfRoom, ih]; rfl

/-- A list scanned into keeps what it holds and takes the first admitted indices that fit (R182). -/
theorem foldl_addIfRoom (p : Byte → Bool) (is acc : List Byte) :
    is.foldl (addIfRoom p) acc = acc ++ (is.filter p).take (16 - acc.length) := by
  induction is generalizing acc with
  | nil => simp
  | cons i is ih =>
    rw [List.foldl_cons, ih, addIfRoom]
    split
    · next h =>
      obtain ⟨hroom, hp⟩ := h
      have hslots : 16 - acc.length = 16 - (acc ++ [i]).length + 1 := by
        rw [List.length_append, List.length_singleton]
        simp only [Config.cacheSlots] at hroom
        omega
      rw [List.filter_cons_of_pos hp, hslots, List.take_succ_cons, List.append_assoc, List.singleton_append]
    · next h =>
      by_cases hp : p i = true
      · have hfull : 16 - acc.length = 0 := by
          have hroom : ¬acc.length < 16 := fun hlt => h ⟨hlt, hp⟩
          omega
        rw [hfull, List.take_zero, List.take_zero]
      · rw [List.filter_cons_of_neg hp]

/-- The lists of `Cull(row)`: of each class the first 16 indices that pass R180's tests (R185). -/
theorem cullLists_eq (s : State) (row : Nat) :
    cullLists s row =
      ((((List.range 256).map (BitVec.ofNat 8)).filter (cullable s row false)).take 16,
       (((List.range 256).map (BitVec.ofNat 8)).filter (cullable s row true)).take 16) := by
  rw [cullLists, foldl_cullStep, foldl_addIfRoom, foldl_addIfRoom]
  rfl

/-- Settles O15: `cull` pads the lists of `cullLists_eq` and puts them in the cache. -/
theorem cullKeepsTheFirstSixteenOfEachClass : Obligations.CullKeepsTheFirstSixteenOfEachClass := by
  intro s
  rw [cull, cullLists_eq]
  rfl

end Sys2Proof.Machine
end

section
/-!
The scratch state never shows (`41_sprite_cache.md` R186, `42_window_mask.md` R207, `43_composition.md` R222, R235): a step of the
state without its scratch is the step of the state, but for the scratch. Each operation of a row writes its part of the scratch before
anything reads it.
-/

namespace Sys2Proof.Machine

/-! ### The state without its scratch -/

/-- The erasure as one update: the form in which its fields are read off. -/
theorem State.eraseScratch_eq (s : State) :
    s.eraseScratch =
      { s with cache0 := [], cache1 := [], wmask := [], main := [], sub := [], out := [], select := [] } := by
  simp only [State.eraseScratch, State.setCache, State.setWmask, State.setLines, State.setOut, State.setSelect]

@[simp] theorem State.eraseScratch_regs (s : State) : s.eraseScratch.regs = s.regs := by rw [State.eraseScratch_eq]
@[simp] theorem State.eraseScratch_forcedBlank (s : State) : s.eraseScratch.forcedBlank = s.forcedBlank := by
  rw [State.eraseScratch_eq]
@[simp] theorem State.eraseScratch_blanked (s : State) : s.eraseScratch.blanked = s.blanked := by rw [State.eraseScratch_eq]
@[simp] theorem State.eraseScratch_fbBase (s : State) : s.eraseScratch.fbBase = s.fbBase := by rw [State.eraseScratch_eq]
@[simp] theorem State.eraseScratch_busy (s : State) : s.eraseScratch.busy = s.busy := by rw [State.eraseScratch_eq]
@[simp] theorem State.eraseScratch_pc (s : State) : s.eraseScratch.pc = s.pc := by rw [State.eraseScratch_eq]
@[simp] theorem State.eraseScratch_oam (s : State) : s.eraseScratch.oam = s.oam := by rw [State.eraseScratch_eq]
@[simp] theorem State.eraseScratch_map0 (s : State) : s.eraseScratch.map0 = s.map0 := by rw [State.eraseScratch_eq]
@[simp] theorem State.eraseScratch_map1 (s : State) : s.eraseScratch.map1 = s.map1 := by rw [State.eraseScratch_eq]
@[simp] theorem State.eraseScratch_bgAtlas (s : State) : s.eraseScratch.bgAtlas = s.bgAtlas := by rw [State.eraseScratch_eq]
@[simp] theorem State.eraseScratch_sprAtlas (s : State) : s.eraseScratch.sprAtlas = s.sprAtlas := by rw [State.eraseScratch_eq]
@[simp] theorem State.eraseScratch_hdma (s : State) : s.eraseScratch.hdma = s.hdma := by rw [State.eraseScratch_eq]
@[simp] theorem State.eraseScratch_fb (s : State) : s.eraseScratch.fb = s.fb := by rw [State.eraseScratch_eq]
@[simp] theorem State.eraseScratch_fbAbsent (s : State) : s.eraseScratch.fbAbsent = s.fbAbsent := by rw [State.eraseScratch_eq]
@[simp] theorem State.eraseScratch_host (s : State) : s.eraseScratch.host = s.host := by rw [State.eraseScratch_eq]
@[simp] theorem State.eraseScratch_dispatch (s : State) : s.eraseScratch.dispatch = s.dispatch := by rw [State.eraseScratch_eq]

/-! Replacing anything but scratch commutes with erasing, and replacing scratch is erased. -/

@[simp] theorem State.eraseScratch_setRegs (s : State) (r : Regs) :
    (s.setRegs r).eraseScratch = s.eraseScratch.setRegs r := by
  rw [State.eraseScratch_eq, State.eraseScratch_eq]; rfl

@[simp] theorem State.eraseScratch_setBlanking (s : State) (f : BitVec 1) (b : BitVec 4) :
    (s.setBlanking f b).eraseScratch = s.eraseScratch.setBlanking f b := by
  rw [State.eraseScratch_eq, State.eraseScratch_eq]; rfl

@[simp] theorem State.eraseScratch_setFbBase (s : State) (a : Nat) :
    (s.setFbBase a).eraseScratch = s.eraseScratch.setFbBase a := by
  rw [State.eraseScratch_eq, State.eraseScratch_eq]; rfl

@[simp] theorem State.eraseScratch_setBusy (s : State) (b : BitVec 1) :
    (s.setBusy b).eraseScratch = s.eraseScratch.setBusy b := by
  rw [State.eraseScratch_eq, State.eraseScratch_eq]; rfl

@[simp] theorem State.eraseScratch_setPc (s : State) (p : Pc) :
    (s.setPc p).eraseScratch = s.eraseScratch.setPc p := by
  rw [State.eraseScratch_eq, State.eraseScratch_eq]; rfl

@[simp] theorem State.eraseScratch_setFbLatch (s : State) (a : Nat) :
    (s.setFbLatch a).eraseScratch = s.eraseScratch.setFbLatch a := by
  rw [State.eraseScratch_eq, State.eraseScratch_eq]; rfl

@[simp] theorem State.eraseScratch_setOam (s : State) (m : Mem) :
    (s.setOam m).eraseScratch = s.eraseScratch.setOam m := by
  rw [State.eraseScratch_eq, State.eraseScratch_eq]; rfl

@[simp] theorem State.eraseScratch_setMap0 (s : State) (m : Mem) :
    (s.setMap0 m).eraseScratch = s.eraseScratch.setMap0 m := by
  rw [State.eraseScratch_eq, State.eraseScratch_eq]; rfl

@[simp] theorem State.eraseScratch_setMap1 (s : State) (m : Mem) :
    (s.setMap1 m).eraseScratch = s.eraseScratch.setMap1 m := by
  rw [State.eraseScratch_eq, State.eraseScratch_eq]; rfl

@[simp] theorem State.eraseScratch_setBgAtlas (s : State) (m : Mem) :
    (s.setBgAtlas m).eraseScratch = s.eraseScratch.setBgAtlas m := by
  rw [State.eraseScratch_eq, State.eraseScratch_eq]; rfl

@[simp] theorem State.eraseScratch_setSprAtlas (s : State) (m : Mem) :
    (s.setSprAtlas m).eraseScratch = s.eraseScratch.setSprAtlas m := by
  rw [State.eraseScratch_eq, State.eraseScratch_eq]; rfl

@[simp] theorem State.eraseScratch_setHdma (s : State) (m : Mem) :
    (s.setHdma m).eraseScratch = s.eraseScratch.setHdma m := by
  rw [State.eraseScratch_eq, State.eraseScratch_eq]; rfl

@[simp] theorem State.eraseScratch_setFb (s : State) (m : Mem) :
    (s.setFb m).eraseScratch = s.eraseScratch.setFb m := by
  rw [State.eraseScratch_eq, State.eraseScratch_eq]; rfl

@[simp] theorem State.eraseScratch_setHost (s : State) (l : List HostAccess) :
    (s.setHost l).eraseScratch = s.eraseScratch.setHost l := by
  rw [State.eraseScratch_eq, State.eraseScratch_eq]; rfl

@[simp] theorem State.eraseScratch_setHostData (s : State) (d : Entry) :
    (s.setHostData d).eraseScratch = s.eraseScratch.setHostData d := by
  rw [State.eraseScratch_eq, State.eraseScratch_eq]; rfl

@[simp] theorem State.eraseScratch_setOut (s : State) (o : List Pixel) : (s.setOut o).eraseScratch = s.eraseScratch := by
  rw [State.eraseScratch_eq, State.eraseScratch_eq]; rfl

@[simp] theorem State.eraseScratch_eraseScratch (s : State) : s.eraseScratch.eraseScratch = s.eraseScratch := by
  rw [State.eraseScratch_eq, State.eraseScratch_eq]

/-! Erasing, and what follows a turn, go into the branches of a choice. -/

theorem eraseScratch_ite {c : Prop} [Decidable c] (s t : State) :
    (if c then s else t).eraseScratch = if c then s.eraseScratch else t.eraseScratch :=
  apply_ite State.eraseScratch c s t

theorem onNext_ite {c : Prop} [Decidable c] (q r : Result) (g : State → State) :
    onNext (if c then q else r) g = if c then onNext q g else onNext r g :=
  apply_ite (onNext · g) c q r

theorem onNext_next (s : State) (g : State → State) : onNext (.next s) g = .next (g s) := rfl

theorem onNext_refused (q : Refusal) (g : State → State) : onNext (.refused q) g = .refused q := rfl

/-! ### The HDMA phase reads no scratch -/

theorem hdmaExec_eraseScratch (t : Nat) (e : Entry) (s : State) :
    hdmaExec t e s.eraseScratch = (hdmaExec t e s).eraseScratch := by
  rw [hdmaExec, hdmaExec, eraseScratch_ite, eraseScratch_ite]
  simp only [State.writeStore, State.eraseScratch_setRegs, State.eraseScratch_regs]

theorem advanceTable_eraseScratch (s : State) : advanceTable s.eraseScratch = (advanceTable s).eraseScratch := by
  simp only [advanceTable, State.eraseScratch_setPc, State.eraseScratch_pc]

theorem State.currentEntry_eraseScratch (s : State) : s.eraseScratch.currentEntry = s.currentEntry := by
  simp only [State.currentEntry, State.row, State.eraseScratch_hdma, State.eraseScratch_pc]

theorem hdmaTurn_eraseScratch (s : State) : hdmaTurn s.eraseScratch = onNext (hdmaTurn s) State.eraseScratch := by
  rw [hdmaTurn, hdmaTurn, onNext_ite]
  simp only [runCode_hdma, onNext_next, hdmaExec_eraseScratch, advanceTable_eraseScratch, State.currentEntry_eraseScratch,
    State.eraseScratch_regs, State.eraseScratch_pc]

/-! ### The host reads no scratch -/

theorem forcedBlank_eraseScratch (t base : Nat) (s : State) :
    forcedBlank t base s.eraseScratch = (forcedBlank t base s).eraseScratch := by
  rw [forcedBlank, forcedBlank, eraseScratch_ite]
  simp only [sectionBlanked, State.eraseScratch_setBlanking, State.eraseScratch_setFb, State.eraseScratch_fb,
    State.eraseScratch_forcedBlank, State.eraseScratch_blanked]

theorem acceptRender_eraseScratch (t : Nat) (s : State) :
    acceptRender t s.eraseScratch = (acceptRender t s).eraseScratch := by
  simp only [acceptRender, State.eraseScratch_setPc, State.eraseScratch_setFbLatch, State.eraseScratch_fbBase]

theorem execRender_eraseScratch (v : Half) (s : State) :
    execRender v s.eraseScratch = onNext (execRender v s) State.eraseScratch := by
  rw [execRender, execRender, onNext_ite, onNext_ite, onNext_ite]
  simp only [State.regionPresent, onNext_next, onNext_refused, acceptRender_eraseScratch, forcedBlank_eraseScratch,
    State.eraseScratch_setBusy, State.eraseScratch_busy, State.eraseScratch_fbBase, State.eraseScratch_fbAbsent,
    State.eraseScratch_forcedBlank]

theorem execBlank_eraseScratch (v : Half) (s : State) :
    execBlank v s.eraseScratch = onNext (execBlank v s) State.eraseScratch := by
  rw [execBlank, execBlank, onNext_ite]
  simp only [onNext_next, onNext_refused, State.eraseScratch_setBlanking, State.eraseScratch_busy, State.eraseScratch_blanked]

theorem State.readPlace_eraseScratch (s : State) (p : Place) : s.eraseScratch.readPlace p = s.readPlace p := by
  rw [State.eraseScratch_eq]
  cases p <;> rfl

theorem State.writeReg_eraseScratch (s : State) (n : BitVec 6) (v : Entry) :
    s.eraseScratch.writeReg n v = (s.writeReg n v).eraseScratch := by
  by_cases hn : n.toNat = 34
  · obtain rfl : n = 34#6 := BitVec.eq_of_toNat_eq hn
    simp only [State.writeReg_fbBase, State.writeBasePiece, State.eraseScratch_setFbBase, State.eraseScratch_fbBase]
  · simp only [State.writeReg_store _ v hn, State.eraseScratch_setRegs, State.eraseScratch_regs]

theorem State.writePlace_eraseScratch (s : State) (p : Place) (v : Entry) :
    s.eraseScratch.writePlace p v = (s.writePlace p v).eraseScratch := by
  cases p with
  | reg n => exact s.writeReg_eraseScratch n v
  | _ => simp [State.writePlace, State.writeBasePiece]

theorem State.access_eraseScratch (s : State) (a : HostAccess) :
    s.eraseScratch.access a = (s.access a).eraseScratch := by
  cases a with
  | read p => simp only [State.access, State.readPlace_eraseScratch, State.eraseScratch_setHostData]
  | write p v => exact s.writePlace_eraseScratch p v

theorem hostTurn_eraseScratch (s : State) : hostTurn s.eraseScratch = onNext (hostTurn s) State.eraseScratch := by
  rw [hostTurn, hostTurn, State.eraseScratch_host]
  cases s.host with
  | nil => rfl
  | cons a rest =>
    cases hcode : hostCode a with
    | none => simp only [hcode, onNext, ← State.eraseScratch_setHost, State.access_eraseScratch]
    | some c =>
      simp only [hcode, ← State.eraseScratch_setHost]
      obtain ⟨v, rfl | rfl⟩ := hostCode_eq_some hcode
      · exact execBlank_eraseScratch v (s.setHost rest)
      · exact execRender_eraseScratch v (s.setHost rest)

/-! ### The composition of a row reads the scratch of that row alone -/

/-- The scratch that the layers of a row do not draw into, erased: the output row, the select lines, and the sprite cache unless
`keepCache`. -/
def State.eraseUndrawn (keepCache : Bool) (s : State) : State :=
  { s with
    cache0 := if keepCache then s.cache0 else []
    cache1 := if keepCache then s.cache1 else []
    out := []
    select := [] }

/-- All that `eraseUndrawn` erases is scratch. -/
@[simp] theorem State.eraseScratch_eraseUndrawn (keep : Bool) (s : State) :
    (s.eraseUndrawn keep).eraseScratch = s.eraseScratch := by
  rw [State.eraseScratch_eq, State.eraseScratch_eq]
  rfl

/-! What the layers read and draw is not erased. -/

theorem State.eraseUndrawn_setLines (keep : Bool) (s : State) (m b : List Pixel) :
    (s.setLines m b).eraseUndrawn keep = (s.eraseUndrawn keep).setLines m b := rfl

@[simp] theorem State.eraseUndrawn_regs (keep : Bool) (s : State) : (s.eraseUndrawn keep).regs = s.regs := rfl
@[simp] theorem State.eraseUndrawn_row (keep : Bool) (s : State) : (s.eraseUndrawn keep).row = s.row := rfl
@[simp] theorem State.eraseUndrawn_laneAt (keep : Bool) (s : State) (c : Nat) : (s.eraseUndrawn keep).laneAt c = s.laneAt c := rfl
@[simp] theorem State.eraseUndrawn_mainAt (keep : Bool) (s : State) (c : Nat) : (s.eraseUndrawn keep).mainAt c = s.mainAt c := rfl
@[simp] theorem State.eraseUndrawn_subAt (keep : Bool) (s : State) (c : Nat) : (s.eraseUndrawn keep).subAt c = s.subAt c := rfl
@[simp] theorem State.eraseUndrawn_sprite (keep : Bool) (s : State) (i : Byte) : (s.eraseUndrawn keep).sprite i = s.sprite i := rfl

@[simp] theorem bgColumn_eraseUndrawn (keep : Bool) (s : State) (b : Background) (row c : Nat) :
    bgColumn (s.eraseUndrawn keep) b row c = bgColumn s b row c := rfl

@[simp] theorem sprColumn_eraseUndrawn (keep : Bool) (s : State) (S : Sprite) (q : BitVec 4) (row c : Nat) :
    sprColumn (s.eraseUndrawn keep) S q row c = sprColumn s S q row c := rfl

/-! The operations of a row, from the cull to the stores. -/

theorem spritesWanted_eraseScratch (s : State) : spritesWanted s.eraseScratch = spritesWanted s := by
  simp only [spritesWanted, State.eraseScratch_regs]

/-- The cull reads `OAM` and the row alone (R180). -/
theorem cull_eraseScratch (s : State) : cull s.eraseScratch = s.eraseScratch.setCache (cull s).cache0 (cull s).cache1 := by
  have hscan : cullStep s.eraseScratch = cullStep s := by
    rw [State.eraseScratch_eq]
    rfl
  simp only [cull, cullLists, hscan, State.row, State.eraseScratch_pc, State.setCache_cache0, State.setCache_cache1]

/-- The mask replaces all of `WMASK`, from the registers (R200). -/
theorem windowMask_eraseScratch_setCache (s : State) (c0 c1 : List Slot) :
    windowMask (s.eraseScratch.setCache c0 c1) = ((windowMask (s.setCache c0 c1)).eraseUndrawn true).setLines [] [] := by
  simp only [windowMask, State.in1, State.in2, State.setCache_regs, State.eraseScratch_regs]
  rw [State.eraseScratch_eq]
  rfl

/-- A prepared row has the line buffers, the output row and the select lines left from before, and the cache where no sprite layer
wants it (R184, R207). -/
theorem prepareRow_eraseScratch (s : State) :
    prepareRow s.eraseScratch = ((prepareRow s).eraseUndrawn (spritesWanted s)).setLines [] [] := by
  rw [prepareRow, prepareRow, spritesWanted_eraseScratch]
  cases spritesWanted s
  · simp only [windowMask, State.in1, State.in2, State.eraseScratch_regs, if_neg Bool.false_ne_true]
    rw [State.eraseScratch_eq]
    rfl
  · simp only [if_true, cull_eraseScratch, windowMask_eraseScratch_setCache, ← cull_frame]

/-- The fallback stage replaces the line buffers whole, whatever they held (R222). -/
theorem fallback_setLines (winen : Bool) (s : State) (m b : List Pixel) :
    fallback winen (s.setLines m b) = fallback winen s := by
  simp only [fallback, State.laneAt, State.setLines_regs, State.setLines_wmask, setLines_setLines]
  rfl

theorem fallback_eraseUndrawn (keep winen : Bool) (s : State) :
    fallback winen (s.eraseUndrawn keep) = (fallback winen s).eraseUndrawn keep := by
  simp only [fallback, State.eraseUndrawn_setLines, State.eraseUndrawn_laneAt, State.eraseUndrawn_regs]
  rfl

theorem bgRow_eraseUndrawn (keep : Bool) (b : Background) (s : State) :
    bgRow b (s.eraseUndrawn keep) = (bgRow b s).eraseUndrawn keep := by
  simp only [bgRow, State.eraseUndrawn_setLines, State.eraseUndrawn_laneAt, State.eraseUndrawn_mainAt, State.eraseUndrawn_subAt,
    State.eraseUndrawn_row, bgColumn_eraseUndrawn]

theorem sprBlit_eraseUndrawn (keep : Bool) (i : Byte) (s : State) :
    sprBlit i (s.eraseUndrawn keep) = (sprBlit i s).eraseUndrawn keep := by
  simp only [sprBlit, sprBlitKey, State.eraseUndrawn_setLines, State.eraseUndrawn_laneAt, State.eraseUndrawn_mainAt,
    State.eraseUndrawn_subAt, State.eraseUndrawn_row, State.eraseUndrawn_sprite, sprColumn_eraseUndrawn]

theorem sprLayer_eraseUndrawn (keep : Bool) (l : List Slot) (s : State) :
    sprLayer l (s.eraseUndrawn keep) = (sprLayer l s).eraseUndrawn keep := by
  induction l generalizing s with
  | nil => rfl
  | cons slot l ih =>
    cases slot with
    | none => rfl
    | some i => rw [sprLayer, sprLayer, sprBlit_eraseUndrawn, ih]

theorem stageBg0_eraseUndrawn (keep : Bool) (k : BitVec 6) (s : State) :
    stageBg0 k (s.eraseUndrawn keep) = (stageBg0 k s).eraseUndrawn keep := by
  unfold stageBg0
  split
  · exact bgRow_eraseUndrawn keep s.background0 s
  · rfl

theorem stageBg1_eraseUndrawn (keep : Bool) (k : BitVec 6) (s : State) :
    stageBg1 k (s.eraseUndrawn keep) = (stageBg1 k s).eraseUndrawn keep := by
  unfold stageBg1
  split
  · exact bgRow_eraseUndrawn keep s.background1 s
  · rfl

/-- The class-0 stage reads its list only where the key has the stage, and there the list is kept (R186, R223). -/
theorem stageSpr0_eraseUndrawn {keep : Bool} {k : BitVec 6} (hkeep : keySpr0 k = true → keep = true) (s : State) :
    stageSpr0 k (s.eraseUndrawn keep) = (stageSpr0 k s).eraseUndrawn keep := by
  unfold stageSpr0
  split
  · next hkey =>
    obtain rfl := hkeep hkey
    exact sprLayer_eraseUndrawn true s.cache0 s
  · rfl

/-- The class-1 stage, likewise (R186, R226). -/
theorem stageSpr1_eraseUndrawn {keep : Bool} {k : BitVec 6} (hkeep : keySpr1 k = true → keep = true) (s : State) :
    stageSpr1 k (s.eraseUndrawn keep) = (stageSpr1 k s).eraseUndrawn keep := by
  unfold stageSpr1
  split
  · next hkey =>
    obtain rfl := hkeep hkey
    exact sprLayer_eraseUndrawn true s.cache1 s
  · rfl

theorem composeLayers_eraseUndrawn {keep : Bool} {k : BitVec 6} (hkeep : (keySpr0 k || keySpr1 k) = keep) (s : State) :
    composeLayers k ((s.eraseUndrawn keep).setLines [] []) = (composeLayers k s).eraseUndrawn keep := by
  have h0 : keySpr0 k = true → keep = true := fun h => by rw [← hkeep, h, Bool.true_or]
  have h1 : keySpr1 k = true → keep = true := fun h => by rw [← hkeep, h, Bool.or_true]
  simp only [composeLayers, fallback_setLines, fallback_eraseUndrawn, stageSpr0_eraseUndrawn h0, stageBg0_eraseUndrawn,
    stageBg1_eraseUndrawn, stageSpr1_eraseUndrawn h1]

/-- The CMATH stage replaces the output row whole (R227). -/
theorem stageCmath_eraseUndrawn (keep : Bool) (k : BitVec 6) (s : State) :
    stageCmath k (s.eraseUndrawn keep) = (s.eraseUndrawn keep).setOut (stageCmath k s).out := by
  unfold stageCmath
  split <;> rfl

/-- The stores come from the output row (R233). -/
theorem storeRow_stageCmath_eraseUndrawn (keep : Bool) (k : BitVec 6) (s : State) :
    (storeRow (stageCmath k (s.eraseUndrawn keep))).eraseScratch = (storeRow (stageCmath k s)).eraseScratch := by
  obtain ⟨o, ho⟩ := stageCmath_out k s
  rw [stageCmath_eraseUndrawn, ho, storeRow, storeRow, State.eraseScratch_setFb, State.eraseScratch_setFb,
    State.eraseScratch_setOut, State.eraseScratch_setOut, State.eraseScratch_eraseUndrawn]
  rfl

/-- A row prepared and composed without the scratch stores what it stores with it. -/
theorem composeRow_prepareRow_eraseScratch (s : State) :
    (composeRow (mainKeyOf s.regs.mainFlags) (prepareRow s.eraseScratch)).eraseScratch =
      (composeRow (mainKeyOf s.regs.mainFlags) (prepareRow s)).eraseScratch := by
  rw [prepareRow_eraseScratch, composeRow, composeLayers_eraseUndrawn (keep := spritesWanted s) rfl,
    storeRow_stageCmath_eraseUndrawn, ← composeRow]

theorem finishRow_eraseScratch (s : State) : finishRow s.eraseScratch = (finishRow s).eraseScratch := by
  rw [finishRow, finishRow, eraseScratch_ite]
  simp only [State.rowInSection, State.row, State.eraseScratch_setBusy, State.eraseScratch_setPc, State.eraseScratch_pc]

theorem composeTurn_eraseScratch (s : State) :
    onNext (composeTurn s.eraseScratch) State.eraseScratch = onNext (composeTurn s) State.eraseScratch := by
  simp only [composeTurn_eq, onNext_next, ← finishRow_eraseScratch, State.eraseScratch_regs,
    composeRow_prepareRow_eraseScratch]

/-! ### The step -/

/-- A turn that reads no scratch answers the same but for the scratch. -/
theorem onNext_eraseScratch_of_commutes {q r : Result} (h : q = onNext r State.eraseScratch) :
    onNext q State.eraseScratch = onNext r State.eraseScratch := by
  subst h
  cases r with
  | next s => simp only [onNext, State.eraseScratch_eraseScratch]
  | fault f => rfl
  | refused q => rfl

theorem busyTurn_eraseScratch (s : State) :
    onNext (busyTurn s.eraseScratch) State.eraseScratch = onNext (busyTurn s) State.eraseScratch := by
  rw [busyTurn, busyTurn, State.eraseScratch_pc, onNext_ite, onNext_ite,
    onNext_eraseScratch_of_commutes (hdmaTurn_eraseScratch s), composeTurn_eraseScratch]

/-- Erasing the scratch before a step changes nothing but scratch in what it answers. -/
theorem step_eraseScratch {s : State} (hd : s.dispatch = none) :
    onNext (step s.eraseScratch) State.eraseScratch = onNext (step s) State.eraseScratch := by
  have hpolls : pollsStatus s.eraseScratch = pollsStatus s := by simp only [pollsStatus, State.eraseScratch_host]
  rw [step_eq s hd, step_eq s.eraseScratch (s.eraseScratch_dispatch.trans hd), State.eraseScratch_busy, hpolls,
    onNext_ite, onNext_ite, busyTurn_eraseScratch, onNext_eraseScratch_of_commutes (hostTurn_eraseScratch s)]

/-- Two states that differ in their scratch alone step alike. -/
theorem SameButScratch.step {s s' t : State} (hsame : SameButScratch s s') (hd : s.dispatch = none)
    (ht : Machine.step s = .next t) : ∃ t', Machine.step s' = .next t' ∧ SameButScratch t t' := by
  have hd' : s'.dispatch = none := by
    rw [← s'.eraseScratch_dispatch, ← hsame, State.eraseScratch_dispatch, hd]
  have hstep : onNext (Machine.step s') State.eraseScratch = .next t.eraseScratch := by
    rw [← step_eraseScratch hd', ← hsame, step_eraseScratch hd, ht, onNext]
  obtain ⟨t', ht', heq⟩ := onNext_eq_next hstep
  exact ⟨t', ht', heq⟩

/-! ### No step dispatches a word singly -/

theorem forcedBlank_dispatch (t base : Nat) (s : State) : (forcedBlank t base s).dispatch = s.dispatch := by
  rw [forcedBlank, apply_ite State.dispatch, State.setBlanking_dispatch, State.setFb_dispatch, ite_self]

theorem execRender_dispatch {v : Half} {s t : State} (h : execRender v s = .next t) : t.dispatch = s.dispatch := by
  rcases execRender_cases v s with ⟨_, hr⟩ | ⟨_, _, hr⟩ | ⟨_, _, _, hr⟩ | ⟨_, _, _, hr⟩ <;> rw [hr] at h <;> cases h
  · exact forcedBlank_dispatch _ _ _
  · rfl

theorem execBlank_dispatch {v : Half} {s t : State} (h : execBlank v s = .next t) : t.dispatch = s.dispatch := by
  unfold execBlank at h
  split at h <;> cases h
  rfl

theorem State.writePlace_dispatch (s : State) (p : Place) (v : Entry) : (s.writePlace p v).dispatch = s.dispatch := by
  cases p with
  | reg n =>
    by_cases hn : n.toNat = 34
    · obtain rfl : n = 34#6 := BitVec.eq_of_toNat_eq hn
      rfl
    · rw [State.writePlace, State.writeReg_store s v hn, State.setRegs_dispatch]
  | _ => rfl

theorem State.access_dispatch (s : State) (a : HostAccess) : (s.access a).dispatch = s.dispatch := by
  cases a with
  | read p => rfl
  | write p v => exact s.writePlace_dispatch p v

theorem hostTurn_dispatch {s t : State} (h : hostTurn s = .next t) : t.dispatch = s.dispatch := by
  unfold hostTurn at h
  split at h
  · cases h
    rfl
  · next a rest _ =>
    split at h
    · next c hcode =>
      obtain ⟨v, rfl | rfl⟩ := hostCode_eq_some hcode
      · exact execBlank_dispatch (s := s.setHost rest) h
      · exact execRender_dispatch (s := s.setHost rest) h
    · cases h
      exact (s.setHost rest).access_dispatch a

theorem hdmaTurn_dispatch {s t : State} (h : hdmaTurn s = .next t) : t.dispatch = s.dispatch := by
  unfold hdmaTurn at h
  split at h
  · obtain ⟨r, hr⟩ := hdmaExec_regs s.pc.tbl.toNat s.currentEntry s
    rw [runCode_hdma, hr] at h
    cases h
    rfl
  · cases h
    rfl

theorem finishRow_dispatch (s : State) : (finishRow s).dispatch = s.dispatch := by
  rw [finishRow, apply_ite State.dispatch, State.setBusy_dispatch, State.setPc_dispatch, ite_self]

theorem composeTurn_dispatch {s t : State} (h : composeTurn s = .next t) : t.dispatch = s.dispatch := by
  rw [composeTurn_eq] at h
  rw [← Host.Outcome.next.inj h, finishRow_dispatch, composeRow_frame, State.setFb_dispatch, State.setOut_dispatch,
    State.setLines_dispatch, prepareRow_frame, State.setWmask_dispatch, State.setCache_dispatch]

/-- No step sets the singly dispatched word (log 2). -/
theorem step_dispatch_eq_none {s t : State} (hd : s.dispatch = none) (ht : step s = .next t) : t.dispatch = none := by
  rw [step_eq s hd, busyTurn] at ht
  rw [← hd]
  split at ht
  · split at ht
    · exact hdmaTurn_dispatch ht
    · exact composeTurn_dispatch ht
  · exact hostTurn_dispatch ht

/-! ### The obligation -/

/-- A run that completes begins with a step that does. -/
theorem RunsTo.of_succ {n : Nat} {s t : State} (h : RunsTo (n + 1) s t) : ∃ u, step s = .next u ∧ RunsTo n u t := by
  cases hs : step s with
  | next u =>
    have hc : Sys2Proof.core.step s = .next u := hs
    exact ⟨u, rfl, by simpa only [RunsTo, Host.Core.run, hc] using h⟩
  | fault f => cases f
  | refused q =>
    have hc : Sys2Proof.core.step s = .refused q := hs
    simp [RunsTo, Host.Core.run, hc] at h

/-- Settles O35, by induction on the number of steps: each keeps the two machines alike and dispatches no word singly. -/
theorem scratchStateNeverShows : Obligations.ScratchStateNeverShows := by
  intro n
  induction n with
  | zero =>
    intro s s' t hsame _ hrun
    obtain rfl : s = t := Host.Outcome.next.inj hrun
    exact ⟨s', rfl, hsame⟩
  | succ n ih =>
    intro s s' t hsame hd hrun
    obtain ⟨u, hu, hrest⟩ := RunsTo.of_succ hrun
    obtain ⟨u', hu', hsame'⟩ := hsame.step hd hu
    obtain ⟨t', hrest', hdone⟩ := ih u u' t hsame' (step_dispatch_eq_none hd hu) hrest
    exact ⟨t', RunsTo.step_then hu' hrest', hdone⟩

end Sys2Proof.Machine
end

section
/-!
The window mask of `42_window_mask.md`: the two memberships of a column and its region (R200 to R203), what a nibble selects (R204, R206),
and the 16 window nibble instructions on the mask (R205).
-/

namespace Sys2Proof.Machine

/-! ### The regions of a column -/

/-- A column comparator is signed and inclusive (R201). -/
theorem inSpan_iff (left right : Half) (c : Nat) :
    inSpan left right c = true ↔ left.toInt ≤ (c : Int) ∧ (c : Int) ≤ right.toInt := by
  rw [inSpan, Bool.and_eq_true, decide_eq_true_iff, decide_eq_true_iff]

theorem State.in1_iff (s : State) (c : Nat) :
    s.in1 c = true ↔ s.regs.win1Left.toInt ≤ (c : Int) ∧ (c : Int) ≤ s.regs.win1Right.toInt := inSpan_iff _ _ c

theorem State.in2_iff (s : State) (c : Nat) :
    s.in2 c = true ↔ s.regs.win2Left.toInt ≤ (c : Int) ∧ (c : Int) ≤ s.regs.win2Right.toInt := inSpan_iff _ _ c

/-- The four values of a lane (R202, R203). -/
theorem laneOf_region (in1 in2 : Bool) :
    (in1 = true ∧ in2 = true → laneOf (region in1 in2) = 0x77#8) ∧
    (in1 = true ∧ ¬in2 = true → laneOf (region in1 in2) = 0x11#8) ∧
    (¬in1 = true ∧ in2 = true → laneOf (region in1 in2) = 0x22#8) ∧
    (¬in1 = true ∧ ¬in2 = true → laneOf (region in1 in2) = 0x88#8) := by
  revert in1 in2
  decide

/-- Settles O10: the mask's lane is the doubled region of the two comparators' answers. -/
theorem windowMaskIsTheRegionOfEachColumn : Obligations.WindowMaskIsTheRegionOfEachColumn := by
  intro s
  refine ⟨windowMask_frame s, fun c hc => ?_⟩
  simp only [windowMask_laneAt s hc, ← s.in1_iff, ← s.in2_iff]
  exact laneOf_region (s.in1 c) (s.in2 c)

/-! ### What a nibble selects -/

/-- A nibble selects a region nibble when a bit is set in both (R204). -/
theorem winSel_eq_bits : ∀ n reg : BitVec 4, winSel n reg =
    (n.getLsbD 0 && reg.getLsbD 0 || n.getLsbD 1 && reg.getLsbD 1 || n.getLsbD 2 && reg.getLsbD 2 ||
      n.getLsbD 3 && reg.getLsbD 3) := by decide

/-- The bits of a region nibble are A, B, AB and X (R202). -/
theorem region_bits (in1 in2 : Bool) :
    (region in1 in2).getLsbD 0 = in1 ∧ (region in1 in2).getLsbD 1 = in2 ∧
    (region in1 in2).getLsbD 2 = (in1 && in2) ∧ (region in1 in2).getLsbD 3 = (!in1 && !in2) := by
  revert in1 in2
  decide

/-- A nibble selects the union of the regions whose bits it has. -/
theorem winSel_region (n : BitVec 4) (in1 in2 : Bool) : winSel n (region in1 in2) =
    (n.getLsbD 0 && in1 || n.getLsbD 1 && in2 || n.getLsbD 2 && (in1 && in2) || n.getLsbD 3 && (!in1 && !in2)) := by
  obtain ⟨hA, hB, hAB, hX⟩ := region_bits in1 in2
  rw [winSel_eq_bits, hA, hB, hAB, hX]

/-- Settles O11: the union of a nibble's regions is its formula, nibble by nibble. -/
theorem nibbleFunctionsAreTheirFormulas : Obligations.NibbleFunctionsAreTheirFormulas := by
  intro n in1 in2
  rw [winSel_region]
  revert n in1 in2
  decide

/-! ### The two nibbles of a lane -/

@[simp] theorem laneMain_laneOf (reg : BitVec 4) : laneMain (laneOf reg) = reg := BitVec.extractLsb'_append_eq_right

@[simp] theorem laneSub_laneOf (reg : BitVec 4) : laneSub (laneOf reg) = reg := BitVec.extractLsb'_append_eq_left

/-- A screen sees the layer where its nibble of the windows byte selects its nibble of the lane (R204). -/
theorem visMain_eq_winSel (wb lane : Byte) : visMain wb lane = winSel (laneMain wb) (laneMain lane) := by
  rw [visMain, winSel, laneMain, BitVec.extractLsb'_and, laneMain, laneMain]

theorem visSub_eq_winSel (wb lane : Byte) : visSub wb lane = winSel (laneSub wb) (laneSub lane) := by
  rw [visSub, winSel, laneSub, BitVec.extractLsb'_and, laneSub, laneSub]

/-- Settles O13: both nibbles of a lane are the column's region. -/
theorem visibilityIsANibbleOnTheRegion : Obligations.VisibilityIsANibbleOnTheRegion := by
  intro wb reg
  rw [visMain_eq_winSel, visSub_eq_winSel, laneMain_laneOf, laneSub_laneOf]
  exact ⟨rfl, rfl⟩

/-! ### The window nibble instructions -/

/-- An ill-formed instruction is a reserved tag outside its block (R104), whose word is an HDMA entry. -/
theorem wf_of_encode_winNib {i : Instr} {b : Byte} (h : encode i = .winNib b) : i.wf = true := by
  cases i with
  | hdmaRsvd21 | hdmaRsvd22 | hdmaRsvd24 | hdmaRsvd32 | hdmaRsvd64 | hdmaRsvd128 | hdmaRsvd256 | hdmaRsvd512 | hdmaRsvd1024
  | hdmaRsvd2048 | hdmaRsvd4096 | hdmaRsvd8192 | hdmaRsvd16384 | hdmaRsvd32768 => cases h
  | _ => rfl

theorem decode_of_encode_winNib {i : Instr} {b : Byte} (h : encode i = .winNib b) : decode (.winNib b) = .ok i := by
  rw [← h]
  exact decodeOfEncodeIsTheInstruction i (wf_of_encode_winNib h)

/-- The word of a window nibble instruction has no bit beyond its nibble (R114). -/
theorem toNat_winNibOf_of_encode {i : Instr} {b : Byte} (h : encode i = .winNib b) : (winNibOf b).toNat = b.toNat := by
  have hword : Code.winNib b = .winNib (b &&& 0x0F#8) :=
    h.symm.trans (encodesAs_of_decode (decode_of_encode_winNib h)).2
  rw [← ofNat_winNibOf] at hword
  have hb : b.toNat = (BitVec.ofNat 8 (winNibOf b).toNat).toNat := congrArg BitVec.toNat (Code.winNib.inj hword)
  rw [hb, BitVec.toNat_ofNat, Nat.mod_eq_of_lt (by have := (winNibOf b).isLt; omega)]

/-- A window nibble instruction looks its nibble up over the row (R205). -/
theorem exec_of_encode_winNib {i : Instr} {b : Byte} (h : encode i = .winNib b) (s : State) :
    exec i s = .next (winLookup (winNibOf b) s) := by
  rw [← runCode_of_decode (decode_of_encode_winNib h), runCode_winNib]

/-- On the mask that `WindowMask` built, a lookup drives each column's line by its nibble's formula (R206). -/
theorem winLookup_windowMask (n : BitVec 4) (s : State) :
    winLookup n (windowMask s) =
      (windowMask s).setSelect (row240 fun c => nibbleFormula n.toNat (s.in1 c) (s.in2 c)) := by
  rw [winLookup]
  congr 1
  refine row240_congr fun c hc => ?_
  rw [windowMask_laneAt s hc, laneMain_laneOf, nibbleFunctionsAreTheirFormulas]

/-- Settles O12: the instruction is the lookup of its nibble, which is its word. -/
theorem windowNibbleSelectsByItsFormula : Obligations.WindowNibbleSelectsByItsFormula := by
  intro i b s hword
  refine ⟨⟨_, exec_of_encode_winNib hword s, winLookup_frame _ s⟩, ?_⟩
  rw [exec_of_encode_winNib hword, winLookup_windowMask, toNat_winNibOf_of_encode hword]

end Sys2Proof.Machine
end

section
/-!
The composition of a row (`43_composition.md`). The background row and the sprites of a list are layer writes, column by column (R228 to
R230, R223); the stages one over the other are the search from the top of R231; a scanline microcode blends and stores what they leave
(R220, R227, R233), down to the keys without a layer (R234).
-/

namespace Sys2Proof.Machine

/-! ### The two screens -/

/-- The screens: the two line buffers of R57 with what the rules give each of its own. -/
inductive Screen where
  | main
  | sub

/-- The pixel a screen's line buffer holds at a column. -/
def Screen.pixelAt : Screen → State → Nat → Pixel
  | .main => State.mainAt
  | .sub => State.subAt

/-- The visibility test of a screen (`42_window_mask.md` R204). -/
def Screen.vis : Screen → Byte → Byte → Bool
  | .main => visMain
  | .sub => visSub

/-- The fallback colour of a screen (R222). -/
def Screen.colour : Screen → Regs → Pixel
  | .main => Regs.mainColour
  | .sub => Regs.subColour

/-! ### One layer write -/

/-- An opaque pixel is supplied where the layer is visible, with the layer's marker. -/
theorem supplied_of_shown {vis : Bool} {p : Pixel} (m : Bool) (h : p ≠ 0 ∧ vis = true) :
    supplied vis m p = some (if m then p ||| 0x8000#16 else p) :=
  if_neg fun hnot => hnot.elim h.1 fun hhidden => Bool.false_ne_true (hhidden.symm.trans h.2)

theorem supplied_of_not_shown {vis : Bool} {p : Pixel} (m : Bool) (h : ¬(p ≠ 0 ∧ vis = true)) : supplied vis m p = none :=
  if_pos (or_iff_not_imp_left.2 fun hopaque => Bool.eq_false_iff.2 fun hvisible => h ⟨hopaque, hvisible⟩)

/-- A layer write puts what the layer supplies over the old pixel (R230). -/
theorem layerPixel_eq_getD (vis m : Bool) (p old : Pixel) : layerPixel vis m p old = (supplied vis m p).getD old := by
  by_cases hp : p = 0
  · rw [layerPixel, if_pos hp, supplied_of_not_shown m fun h => h.1 hp, Option.getD_none]
  · rw [layerPixel, if_neg hp]
    cases vis with
    | false => rw [supplied_of_not_shown m fun h => Bool.false_ne_true h.2]; rfl
    | true => rw [supplied_of_shown m ⟨hp, rfl⟩]; rfl

/-! ### A background's row -/

theorem tileCol_eq_mod (t : Half) : tileCol t = t.toNat % 32 := by
  rw [tileCol, BitVec.extractLsb'_toNat, Nat.shiftRight_zero]

theorem tileRow_eq_div_mod (t : Half) : tileRow t = t.toNat / 32 % 64 := by
  rw [tileRow, BitVec.extractLsb'_toNat, Nat.shiftRight_eq_div_pow]

/-- The pixel that a background has at a column is R228's and R229's on integers. -/
theorem bgColumn_eq_bgPixelRule (s : State) (b : Background) (row c : Nat) :
    bgColumn s b row c = bgPixelRule s b.map b.x b.y row c := by
  simp only [bgColumn, bgPixel, tileCol_eq_mod, tileRow_eq_div_mod]
  rfl

/-- After a background row each screen holds what the background supplies, over what it held (R228, R230). -/
theorem Screen.pixelAt_bgRow (v : Screen) (b : Background) (s : State) {c : Nat} (hc : c < 240) :
    v.pixelAt (bgRow b s) c = (bgSupply v.vis s c b).getD (v.pixelAt s c) := by
  rw [bgSupply, ← layerPixel_eq_getD]
  cases v with
  | main => exact bgRow_mainAt b s hc
  | sub => exact bgRow_subAt b s hc

/-- Where the background is opaque and visible its pixel is written, with its marker. -/
theorem Screen.pixelAt_bgRow_of_shown (v : Screen) (b : Background) (s : State) {c : Nat} (hc : c < 240)
    (h : bgPixelRule s b.map b.x b.y s.row c ≠ 0 ∧ v.vis b.windows (s.laneAt c) = true) :
    v.pixelAt (bgRow b s) c =
      if b.flags.getLsbD 0 then bgPixelRule s b.map b.x b.y s.row c ||| 0x8000#16
      else bgPixelRule s b.map b.x b.y s.row c := by
  rw [v.pixelAt_bgRow b s hc, bgSupply, bgColumn_eq_bgPixelRule, supplied_of_shown _ h, Option.getD_some]

/-- Everywhere else the screen's pixel is as before. -/
theorem Screen.pixelAt_bgRow_of_not_shown (v : Screen) (b : Background) (s : State) {c : Nat} (hc : c < 240)
    (h : ¬(bgPixelRule s b.map b.x b.y s.row c ≠ 0 ∧ v.vis b.windows (s.laneAt c) = true)) :
    v.pixelAt (bgRow b s) c = v.pixelAt s c := by
  rw [v.pixelAt_bgRow b s hc, bgSupply, bgColumn_eq_bgPixelRule, supplied_of_not_shown _ h, Option.getD_none]

/-- Settles O18: the row is one layer write per column, on each screen, for each background. -/
theorem backgroundRowIsALayerWritePerColumn : Obligations.BackgroundRowIsALayerWritePerColumn := by
  intro s c hc
  have shown (v : Screen) (b : Background) := v.pixelAt_bgRow_of_shown b s hc
  have hidden (v : Screen) (b : Background) := v.pixelAt_bgRow_of_not_shown b s hc
  exact
    ⟨⟨bgRow_frame _ s, shown .main s.background0, hidden .main s.background0, shown .sub s.background0, hidden .sub s.background0⟩,
      ⟨bgRow_frame _ s, shown .main s.background1, hidden .main s.background1, shown .sub s.background1, hidden .sub s.background1⟩⟩

/-! ### The search from the top -/

theorem topmost_nil (d : Pixel) : topmost [] d = d := rfl

theorem topmost_singleton (o : Option Pixel) (d : Pixel) : topmost [o] d = o.getD d := by
  cases o <;> rfl

/-- A search through upper layers and then lower ones falls back, from the upper ones, on the search through the lower ones. -/
theorem topmost_append (upper lower : List (Option Pixel)) (d : Pixel) :
    topmost (upper ++ lower) d = topmost upper (topmost lower d) := by
  rw [topmost, topmost, topmost, List.findSome?_append]
  cases upper.findSome? id <;> rfl

/-! ### A list of sprites -/

theorem validSlots_some_cons (i : Byte) (l : List Slot) : validSlots (some i :: l) = i :: validSlots l := by
  simp [validSlots]

theorem validSlots_none_cons (l : List Slot) : validSlots (none :: l) = [] := by
  simp [validSlots]

/-- `SPR_CMATH` of the key that a sprite's flags select (`44_sprite_blit.md` R250, R258). -/
theorem blitCmath_sprKeyOf (f : Byte) : blitCmath (sprKeyOf f) = f.getLsbD 4 := by
  simp [blitCmath, sprKeyOf]

/-- What a sprite supplies does not depend on the line buffers. -/
theorem spriteSupply_setLines (vis : Byte → Byte → Bool) (s : State) (m b : List Pixel) (c : Nat) :
    spriteSupply vis (s.setLines m b) c = spriteSupply vis s c := rfl

/-- After a blit each screen holds what the sprite supplies, over what it held (R223, R230). -/
theorem Screen.pixelAt_sprBlit (v : Screen) (i : Byte) (s : State) {c : Nat} (hc : c < 240) :
    v.pixelAt (sprBlit i s) c = (spriteSupply v.vis s c i).getD (v.pixelAt s c) := by
  have hblit : v.pixelAt (sprBlit i s) c =
      blitPixel (v.vis (s.sprite i).windows (s.laneAt c)) (blitCmath (sprKeyOf (s.sprite i).flags))
        (sprColumn s (s.sprite i) (sprKeyOf (s.sprite i).flags) s.row c) (v.pixelAt s c) := by
    cases v with
    | main => exact sprBlitKey_mainAt _ i s hc
    | sub => exact sprBlitKey_subAt _ i s hc
  rw [hblit, blitCmath_sprKeyOf, spriteSupply]
  cases sprColumn s (s.sprite i) (sprKeyOf (s.sprite i).flags) s.row c with
  | none => rfl
  | some p => exact layerPixel_eq_getD _ _ p _

/-- Sprites drawn in list order up to the sentinel: a later one lies over an earlier one (R223, R231). -/
theorem Screen.pixelAt_sprLayer (v : Screen) (l : List Slot) (s : State) {c : Nat} (hc : c < 240) :
    v.pixelAt (sprLayer l s) c = topmost ((validSlots l).reverse.map (spriteSupply v.vis s c)) (v.pixelAt s c) := by
  induction l generalizing s with
  | nil => rfl
  | cons slot l ih =>
    cases slot with
    | none => rw [sprLayer, validSlots_none_cons]; rfl
    | some i =>
      have hrest : v.pixelAt (sprLayer l (sprBlit i s)) c =
          topmost ((validSlots l).reverse.map (spriteSupply v.vis s c)) (v.pixelAt (sprBlit i s) c) := by
        rw [ih, sprBlit_frame, spriteSupply_setLines]
      rw [sprLayer, hrest, v.pixelAt_sprBlit i s hc, validSlots_some_cons, List.reverse_cons, List.map_append,
        topmost_append, List.map_singleton, topmost_singleton]

/-! ### The stages, one over the other -/

/-- What a screen's layers supply at a column, from the top down. -/
abbrev Supplies := Screen → Nat → List (Option Pixel)

/-- `u` is `s` with the layers that supply `l` drawn over the fallback of key `k`. -/
structure Drawn (k : BitVec 6) (s : State) (l : Supplies) (u : State) : Prop where
  lines : ∃ m b, u = s.setLines m b
  pixel : ∀ (v : Screen), ∀ c < 240,
    v.pixelAt u c = topmost (l v c) (fallbackPixel v.vis k s (v.colour s.regs) c)

/-- Stage FALLBACK (R222). -/
theorem drawn_fallback (k : BitVec 6) (s : State) : Drawn k s (fun _ _ => []) (fallback (keyBgColWin k) s) where
  lines := ⟨_, _, fallback_frame _ s⟩
  pixel v c hc := by
    rw [topmost_nil, fallbackPixel]
    cases v with
    | main => rw [Screen.pixelAt, fallback_mainAt _ s hc]; simp [keyBgColWin, Screen.vis, Screen.colour]
    | sub => rw [Screen.pixelAt, fallback_subAt _ s hc]; simp [keyBgColWin, Screen.vis, Screen.colour]

section
variable {k : BitVec 6} {s u : State} {l : Supplies}

/-- A stage that draws what supplies `top`, when its key bit `on` is set, adds it above the layers drawn so far. -/
theorem Drawn.stage (h : Drawn k s l u) (on : Bool) {draw : State → State} {top : Supplies}
    (hlines : ∀ w, ∃ m b, draw w = w.setLines m b)
    (hpixel : ∀ (m b : List Pixel) (v : Screen), ∀ c < 240,
      v.pixelAt (draw (s.setLines m b)) c = topmost (top v c) (v.pixelAt (s.setLines m b) c)) :
    Drawn k s (fun v c => (if on then top v c else []) ++ l v c) (if on then draw u else u) := by
  cases on with
  | false => exact h
  | true =>
    obtain ⟨m, b, rfl⟩ := h.lines
    refine ⟨hlines _, fun v c hc => ?_⟩
    rw [if_pos rfl, if_pos rfl, hpixel m b v c hc, h.pixel v c hc, topmost_append]

/-- Stage SPR0 (R223). -/
theorem Drawn.stageSpr0 (h : Drawn k s l u) : Drawn k s
    (fun v c => (if k.getLsbD 0 then (validSlots s.cache0).reverse.map (spriteSupply v.vis s c) else []) ++ l v c)
    (stageSpr0 k u) :=
  h.stage (keySpr0 k) (draw := fun w => sprLayer w.cache0 w) (fun w => sprLayer_lines w.cache0 w)
    fun _ _ v _ hc => v.pixelAt_sprLayer s.cache0 _ hc

/-- Stage BG0 (R224). -/
theorem Drawn.stageBg0 (h : Drawn k s l u) : Drawn k s
    (fun v c => (if k.getLsbD 2 then [bgSupply v.vis s c s.background0] else []) ++ l v c) (stageBg0 k u) :=
  h.stage (keyBg0 k) (draw := fun w => bgRow w.background0 w) (fun w => ⟨_, _, bgRow_frame w.background0 w⟩)
    fun _ _ v _ hc => (v.pixelAt_bgRow s.background0 _ hc).trans (topmost_singleton _ _).symm

/-- Stage BG1 (R225). -/
theorem Drawn.stageBg1 (h : Drawn k s l u) : Drawn k s
    (fun v c => (if k.getLsbD 3 then [bgSupply v.vis s c s.background1] else []) ++ l v c) (stageBg1 k u) :=
  h.stage (keyBg1 k) (draw := fun w => bgRow w.background1 w) (fun w => ⟨_, _, bgRow_frame w.background1 w⟩)
    fun _ _ v _ hc => (v.pixelAt_bgRow s.background1 _ hc).trans (topmost_singleton _ _).symm

/-- Stage SPR1 (R226). -/
theorem Drawn.stageSpr1 (h : Drawn k s l u) : Drawn k s
    (fun v c => (if k.getLsbD 1 then (validSlots s.cache1).reverse.map (spriteSupply v.vis s c) else []) ++ l v c)
    (stageSpr1 k u) :=
  h.stage (keySpr1 k) (draw := fun w => sprLayer w.cache1 w) (fun w => sprLayer_lines w.cache1 w)
    fun _ _ v _ hc => v.pixelAt_sprLayer s.cache1 _ hc

end

/-- After the layer stages each screen holds what the search from the top finds (R231). -/
theorem Screen.pixelAt_composeLayers (v : Screen) (k : BitVec 6) (s : State) {c : Nat} (hc : c < 240) :
    v.pixelAt (composeLayers k s) c =
      topmost (suppliesFromTop v.vis k s c) (fallbackPixel v.vis k s (v.colour s.regs) c) := by
  have hdrawn := (drawn_fallback k s).stageSpr0.stageBg0.stageBg1.stageSpr1
  rw [composeLayers, hdrawn.pixel v c hc, suppliesFromTop]
  simp only [List.append_assoc, List.append_nil]

/-- Settles O19: the search from the top, on each screen. -/
theorem topmostVisibleOpaqueLayerSuppliesThePixel : Obligations.TopmostVisibleOpaqueLayerSuppliesThePixel :=
  fun k s _ hc => ⟨Screen.main.pixelAt_composeLayers k s hc, Screen.sub.pixelAt_composeLayers k s hc⟩

/-! ### The output row and its store -/

@[simp] theorem composeRow_main (k : BitVec 6) (s : State) : (composeRow k s).main = (composeLayers k s).main := by
  obtain ⟨o, hout⟩ := stageCmath_out k (composeLayers k s)
  rw [composeRow, hout]
  rfl

@[simp] theorem composeRow_sub (k : BitVec 6) (s : State) : (composeRow k s).sub = (composeLayers k s).sub := by
  obtain ⟨o, hout⟩ := stageCmath_out k (composeLayers k s)
  rw [composeRow, hout]
  rfl

@[simp] theorem composeRow_mainAt (k : BitVec 6) (s : State) (c : Nat) :
    (composeRow k s).mainAt c = (composeLayers k s).mainAt c := by
  rw [State.mainAt, composeRow_main, State.mainAt]

@[simp] theorem composeRow_subAt (k : BitVec 6) (s : State) (c : Nat) :
    (composeRow k s).subAt c = (composeLayers k s).subAt c := by
  rw [State.subAt, composeRow_sub, State.subAt]

@[simp] theorem composeLayers_regs (k : BitVec 6) (s : State) : (composeLayers k s).regs = s.regs := by
  rw [composeLayers_frame, State.setLines_regs]

/-- The CMATH stage's column: the main pixel, blended when the key has the stage (R227). -/
theorem stageCmath_outAt (k : BitVec 6) (s : State) {c : Nat} (hc : c < 240) :
    (stageCmath k s).outAt c =
      if keyCmath k then cmathPixel s.regs.cmathFlags s.fadeLevel (s.mainAt c) (s.subAt c) else s.mainAt c := by
  rw [stageCmath]
  split
  · exact cmathRow_outAt _ s hc
  · exact row240_getD s.mainAt 0 hc

theorem composeRow_out_length (k : BitVec 6) (s : State) : (composeRow k s).out.length = 240 :=
  stageCmath_out_length k (composeLayers k s)

/-- The output row of a scanline microcode (R220, R227). -/
theorem composeRow_outAt (k : BitVec 6) (s : State) {c : Nat} (hc : c < 240) :
    (composeRow k s).outAt c =
      if keyCmath k then cmathPixel s.regs.cmathFlags s.fadeLevel ((composeRow k s).mainAt c) ((composeRow k s).subAt c)
      else (composeRow k s).mainAt c := by
  have hout : (composeRow k s).outAt c = (stageCmath k (composeLayers k s)).outAt c := rfl
  rw [hout, stageCmath_outAt k _ hc, State.fadeLevel, composeLayers_regs, composeRow_mainAt, composeRow_subAt]
  rfl

/-- What a scanline microcode stores, and from where on, is its output row at its row's first address (R233). -/
theorem composeRow_fb_eq_storePixels (k : BitVec 6) (s : State) :
    (composeRow k s).fb = Mem.storePixels s.fb (s.fbLatch + 240 * (s.row % 60)) (composeRow k s).out := by
  obtain ⟨m, b, hlines⟩ := composeLayers_lines k s
  obtain ⟨o, hout⟩ := stageCmath_out k (composeLayers k s)
  rw [composeRow, hout, hlines]
  rfl

/-- A row's pixels have an address each, whatever `FB_AW` is (`92_eei_decisions.md` D26). -/
theorem rowPixels_le : 240 ≤ 2 ^ Config.fbAW := (by decide : 240 ≤ 14400).trans sectionPixels_le

/-- Column `c` of the output row stands at its address (R233, `20_memory.md` R78). -/
theorem composeRow_pixel? (k : BitVec 6) (s : State) {c : Nat} (hc : c < 240) :
    Mem.pixel? (composeRow k s).fb ((s.fbLatch + 240 * (s.row % 60) + c) % 2 ^ Config.fbAW) =
      some ((composeRow k s).outAt c) := by
  have hlength := composeRow_out_length k s
  have hcolumn : c < (composeRow k s).out.length := hc.trans_eq hlength.symm
  rw [composeRow_fb_eq_storePixels, ← fbWrap_eq, Mem.pixel?_storePixels _ _ _ (hlength.trans_le rowPixels_le) c hcolumn,
    State.outAt, List.getD_eq_getElem _ _ hcolumn]

/-- Every other address of the frame buffer is as before. -/
theorem composeRow_pixel?_other (k : BitVec 6) (s : State) {a : Nat}
    (ha : ∀ c < 240, a ≠ (s.fbLatch + 240 * (s.row % 60) + c) % 2 ^ Config.fbAW) :
    Mem.pixel? (composeRow k s).fb a = Mem.pixel? s.fb a := by
  rw [composeRow_fb_eq_storePixels]
  apply Mem.pixel?_storePixels_other
  intro c hc
  rw [fbWrap_eq]
  exact ha c (hc.trans_eq (composeRow_out_length k s))

/-! ### The scanline instructions -/

/-- An ill-formed instruction is a reserved tag outside its block (R104), whose word is an HDMA entry: an instruction with any other
word is well-formed. -/
theorem wf_of_encode_ne_hdma {i : Instr} (h : ∀ e, encode i ≠ .hdma e) : i.wf = true := by
  cases i with
  | hdmaRsvd21 | hdmaRsvd22 | hdmaRsvd24 | hdmaRsvd32 | hdmaRsvd64 | hdmaRsvd128 | hdmaRsvd256 | hdmaRsvd512 | hdmaRsvd1024
  | hdmaRsvd2048 | hdmaRsvd4096 | hdmaRsvd8192 | hdmaRsvd16384 | hdmaRsvd32768 => exact absurd rfl (h _)
  | _ => rfl

/-- The instruction of a main key runs `ComposeRow` with it (R220, R221). -/
theorem exec_of_encode_mainKey {i : Instr} {b : Byte} (h : encode i = .mainKey b) (s : State) :
    exec i s = .next (composeRow (mainKeyOf b) s) := by
  have hdecode := decodeOfEncodeIsTheInstruction i (wf_of_encode_ne_hdma (by simp [h]))
  rw [h] at hdecode
  rw [← runCode_of_decode hdecode, runCode_mainKey]

/-- `CMATH` of a main key byte (`30_encoding.md` R111). -/
theorem keyCmath_mainKeyOf (b : Byte) : keyCmath (mainKeyOf b) = b.getLsbD 4 := by
  simp [keyCmath, mainKeyOf]

/-- Settles O20: the instruction is `ComposeRow` of its key, whose row and whose store are known column by column. -/
theorem scanStoresTheComposedRow : Obligations.ScanStoresTheComposedRow := by
  intro i b s hword
  refine ⟨_, exec_of_encode_mainKey hword s, composeRow_frame _ s, composeRow_main _ s, composeRow_sub _ s, fun c hc => ?_,
    fun a ha => composeRow_pixel?_other _ s ha⟩
  rw [composeRow_pixel? _ s hc, composeRow_outAt _ s hc, keyCmath_mainKeyOf, State.fadeLevel]

/-! ### The keys without a layer -/

/-- Under a key without a layer each screen shows its fallback. -/
theorem Screen.pixelAt_composeRow_of_noLayers (v : Screen) {k : BitVec 6} (s : State) {c : Nat} (hc : c < 240)
    (h : suppliesFromTop v.vis k s c = []) :
    v.pixelAt (composeRow k s) c = fallbackPixel v.vis k s (v.colour s.regs) c := by
  have hlayers : v.pixelAt (composeRow k s) c = v.pixelAt (composeLayers k s) c := by
    cases v with
    | main => exact composeRow_mainAt k s c
    | sub => exact composeRow_subAt k s c
  rw [hlayers, v.pixelAt_composeLayers k s hc, h, topmost_nil]

/-- Without the CMATH stage the main screen's pixel is the one stored (R227, R233). -/
theorem composeRow_pixel?_of_noCmath {k : BitVec 6} (hk : keyCmath k = false) (s : State) {c : Nat} (hc : c < 240) :
    Mem.pixel? (composeRow k s).fb ((s.fbLatch + 240 * (s.row % 60) + c) % 2 ^ Config.fbAW) =
      some ((composeRow k s).mainAt c) := by
  rw [composeRow_pixel? k s hc, composeRow_outAt k s hc, hk, if_neg Bool.false_ne_true]

/-- Without BGCOLWIN the fallback is the plain colour (R222). -/
theorem fallbackPixel_plain (vis : Byte → Byte → Bool) (s : State) (colour : Pixel) (c : Nat) :
    fallbackPixel vis 0x00#6 s colour c = colour :=
  if_neg fun h => Bool.false_ne_true h.1

/-- With BGCOLWIN it is the colour where x[7] shows it (R222). -/
theorem fallbackPixel_windowed (vis : Byte → Byte → Bool) (s : State) (colour : Pixel) (c : Nat) :
    fallbackPixel vis 0x20#6 s colour c = if vis s.regs.bgcolWindows (s.laneAt c) then colour else 0 := by
  rw [fallbackPixel]
  cases vis s.regs.bgcolWindows (s.laneAt c) <;> rfl

/-- Settles O21: neither key has a layer or the CMATH stage. -/
theorem keysWithoutLayersDrawTheFallbackColours : Obligations.KeysWithoutLayersDrawTheFallbackColours := by
  intro s
  refine ⟨⟨_, exec_of_encode_mainKey rfl s, fun c hc => ?_⟩, ⟨_, exec_of_encode_mainKey rfl s, fun c hc => ?_⟩⟩
  · have hscreen : ∀ v : Screen, v.pixelAt (composeRow 0x00#6 s) c = v.colour s.regs := fun v =>
      (v.pixelAt_composeRow_of_noLayers s hc rfl).trans (fallbackPixel_plain _ s _ c)
    exact ⟨hscreen .main, hscreen .sub,
      (composeRow_pixel?_of_noCmath rfl s hc).trans (congrArg some (hscreen .main))⟩
  · have hscreen : ∀ v : Screen, v.pixelAt (composeRow 0x20#6 s) c =
        if v.vis s.regs.bgcolWindows (s.laneAt c) then v.colour s.regs else 0 := fun v =>
      (v.pixelAt_composeRow_of_noLayers s hc rfl).trans (fallbackPixel_windowed _ s _ c)
    exact ⟨hscreen .main, hscreen .sub, composeRow_pixel?_of_noCmath rfl s hc⟩

end Sys2Proof.Machine
end

section
/-!
The sprite blit of `44_sprite_blit.md`: the atlas pixel of a screen column on integers (R250 to R256), the 16 blit instructions column by
column (R255, R257 to R260), and the blit as the loop of R250.
-/

namespace Sys2Proof.Machine

/-! ### The key and the source pixel -/

/-- `FX`, `FY` and `D` of the key that a blit byte selects (R250, `30_encoding.md` R113). -/
theorem blitFlipX_sprKeyOf (b : Byte) : blitFlipX (sprKeyOf b) = b.getLsbD 2 := by
  simp [blitFlipX, sprKeyOf]

theorem blitFlipY_sprKeyOf (b : Byte) : blitFlipY (sprKeyOf b) = b.getLsbD 3 := by
  simp [blitFlipY, sprKeyOf]

theorem blitDouble_sprKeyOf (b : Byte) : blitDouble (sprKeyOf b) = b.getLsbD 5 := by
  simp [blitDouble, sprKeyOf]

/-- Doubling halves the source coordinate: a division by the zoom (R252 to R254). -/
theorem srcCoord_eq_div (l n : Int) (flip dbl : Bool) :
    srcCoord l n flip dbl = if flip then n - 1 - l / (if dbl then 2 else 1) else l / (if dbl then 2 else 1) := by
  cases dbl with
  | false => simp [srcCoord]
  | true => rfl

/-- The mask 0xF8 rounds an atlas column down to a multiple of 8. -/
theorem toNat_and_F8 : ∀ g : Byte, (g &&& 0xF8#8).toNat = g.toNat / 8 * 8 := by decide

/-! ### The columns a sprite covers -/

/-- A covered column is the one of some offset in the sprite's screen width (R250, R254). -/
theorem spriteCovers_iff (S : Sprite) (b : Byte) (c : Nat) :
    spriteCovers S b c ↔
      0 ≤ (c : Int) - S.x.toInt ∧ (c : Int) - S.x.toInt < screenSize S.width (blitDouble (sprKeyOf b)) := by
  rw [spriteCovers, screenSize_eq_mul, blitDouble_sprKeyOf, sub_nonneg, sub_lt_iff_lt_add']

/-- At a covered column the sprite's pixel is that of R250 to R256 on integers. -/
theorem sprColumn_of_covers (s : State) {S : Sprite} {b : Byte} {c : Nat} (row : Nat) (h : spriteCovers S b c) :
    sprColumn s S (sprKeyOf b) row c = some (spritePixelRule s S b row c) := by
  rw [sprColumn, if_pos ((spriteCovers_iff S b c).1 h), blitFlipX_sprKeyOf, blitFlipY_sprKeyOf, blitDouble_sprKeyOf,
    srcCoord_eq_div, srcCoord_eq_div, sprPixel, toNat_and_F8, spritePixelRule]

/-- Elsewhere it has none (R260). -/
theorem sprColumn_of_not_covers (s : State) {S : Sprite} {b : Byte} {c : Nat} (row : Nat) (h : ¬spriteCovers S b c) :
    sprColumn s S (sprKeyOf b) row c = none :=
  if_neg fun hoffset => h ((spriteCovers_iff S b c).2 hoffset)

/-! ### The blit, column by column -/

/-- After the blit of a key each screen holds a layer write of the sprite's pixel, where it has one, over what it held (R230, R250). -/
theorem Screen.pixelAt_sprBlitKey (v : Screen) (q : BitVec 4) (i : Byte) (s : State) {c : Nat} (hc : c < 240) :
    v.pixelAt (sprBlitKey q i s) c =
      blitPixel (v.vis (s.sprite i).windows (s.laneAt c)) (blitCmath q) (sprColumn s (s.sprite i) q s.row c)
        (v.pixelAt s c) := by
  cases v with
  | main => exact sprBlitKey_mainAt q i s hc
  | sub => exact sprBlitKey_subAt q i s hc

/-- A column without a pixel of the sprite is as before (R260). -/
theorem Screen.pixelAt_sprBlitKey_of_none (v : Screen) {q : BitVec 4} {i : Byte} {s : State} {c : Nat} (hc : c < 240)
    (h : sprColumn s (s.sprite i) q s.row c = none) : v.pixelAt (sprBlitKey q i s) c = v.pixelAt s c := by
  rw [v.pixelAt_sprBlitKey q i s hc, h, blitPixel]

/-- A column with a pixel of the sprite takes one layer write of it (R230). -/
theorem Screen.pixelAt_sprBlitKey_of_some (v : Screen) {q : BitVec 4} {i : Byte} {s : State} {c : Nat} {p : Pixel} (hc : c < 240)
    (h : sprColumn s (s.sprite i) q s.row c = some p) :
    v.pixelAt (sprBlitKey q i s) c =
      (supplied (v.vis (s.sprite i).windows (s.laneAt c)) (blitCmath q) p).getD (v.pixelAt s c) := by
  rw [v.pixelAt_sprBlitKey q i s hc, h, blitPixel, layerPixel_eq_getD]

/-- Where the sprite covers the column and is opaque and visible there, its pixel is written, with its marker (R255, R257, R258). -/
theorem Screen.pixelAt_sprBlitKey_of_shown (v : Screen) (i b : Byte) (s : State) {c : Nat} (hc : c < 240)
    (h : spriteCovers (s.sprite i) b c ∧ spritePixelRule s (s.sprite i) b s.row c ≠ 0 ∧
      v.vis (s.sprite i).windows (s.laneAt c) = true) :
    v.pixelAt (sprBlitKey (sprKeyOf b) i s) c =
      if b.getLsbD 4 then spritePixelRule s (s.sprite i) b s.row c ||| 0x8000#16
      else spritePixelRule s (s.sprite i) b s.row c := by
  obtain ⟨hcovers, hshown⟩ := h
  rw [v.pixelAt_sprBlitKey_of_some hc (sprColumn_of_covers s s.row hcovers), supplied_of_shown _ hshown, Option.getD_some,
    blitCmath_sprKeyOf]

/-- Everywhere else the screen's pixel is as before. -/
theorem Screen.pixelAt_sprBlitKey_of_not_shown (v : Screen) (i b : Byte) (s : State) {c : Nat} (hc : c < 240)
    (h : ¬(spriteCovers (s.sprite i) b c ∧ spritePixelRule s (s.sprite i) b s.row c ≠ 0 ∧
      v.vis (s.sprite i).windows (s.laneAt c) = true)) :
    v.pixelAt (sprBlitKey (sprKeyOf b) i s) c = v.pixelAt s c := by
  by_cases hcovers : spriteCovers (s.sprite i) b c
  · rw [v.pixelAt_sprBlitKey_of_some hc (sprColumn_of_covers s s.row hcovers),
      supplied_of_not_shown _ fun hshown => h ⟨hcovers, hshown⟩, Option.getD_none]
  · exact v.pixelAt_sprBlitKey_of_none hc (sprColumn_of_not_covers s s.row hcovers)

/-- A blit instruction runs the blit of its word's key for its word's sprite (R250, R259). -/
theorem exec_of_encode_sprKey {i : Instr} {n b : Byte} (h : encode i = .sprKey n b) (s : State) :
    exec i s = .next (sprBlitKey (sprKeyOf b) n s) := by
  have hdecode := decodeOfEncodeIsTheInstruction i (wf_of_encode_ne_hdma (by simp [h]))
  rw [h] at hdecode
  rw [← runCode_of_decode hdecode, runCode_sprKey]

/-- Settles O16: the instruction is the blit of its key, whose columns are known on each screen. -/
theorem blitWritesTheSpritesVisiblePixels : Obligations.BlitWritesTheSpritesVisiblePixels := by
  intro i n b s hword
  refine ⟨_, exec_of_encode_sprKey hword s, sprBlitKey_frame _ n s, fun c hc => ?_⟩
  have shown (v : Screen) := v.pixelAt_sprBlitKey_of_shown n b s hc
  have hidden (v : Screen) := v.pixelAt_sprBlitKey_of_not_shown n b s hc
  exact ⟨shown .main, hidden .main, shown .sub, hidden .sub⟩

/-! ### One layer write of the loop -/

/-- The line buffer of a screen. -/
def Screen.line : Screen → State → List Pixel
  | .main => State.main
  | .sub => State.sub

theorem Screen.pixelAt_eq_getD (v : Screen) (s : State) (c : Nat) : v.pixelAt s c = (v.line s).getD c 0 := by
  cases v <;> rfl

/-- A layer write replaces at most the pixel of its column, by what the layer supplies (R230). -/
theorem Screen.line_layerWrite (v : Screen) (c : Nat) (p : Pixel) (m : Bool) (wb : Byte) (u : State) :
    v.line (layerWrite c p m wb u) =
      (supplied (v.vis wb (u.laneAt c)) m p).elim (v.line u) fun shown => (v.line u).set c shown := by
  have hline : v.line (layerWrite c p m wb u) =
      if p ≠ 0 ∧ v.vis wb (u.laneAt c) = true then (v.line u).set c (if m then p ||| 0x8000#16 else p) else v.line u := by
    cases v <;> rfl
  rw [hline]
  split
  next hshown => rw [supplied_of_shown m hshown, Option.elim_some]
  next hhidden => rw [supplied_of_not_shown m hhidden, Option.elim_none]

theorem Screen.length_line_layerWrite (v : Screen) (c : Nat) (p : Pixel) (m : Bool) (wb : Byte) (u : State) :
    (v.line (layerWrite c p m wb u)).length = (v.line u).length := by
  rw [v.line_layerWrite]
  cases supplied (v.vis wb (u.laneAt c)) m p with
  | none => rfl
  | some shown => exact List.length_set

theorem Screen.pixelAt_layerWrite (v : Screen) {c : Nat} (p : Pixel) (m : Bool) (wb : Byte) {u : State}
    (hc : c < (v.line u).length) :
    v.pixelAt (layerWrite c p m wb u) c = (supplied (v.vis wb (u.laneAt c)) m p).getD (v.pixelAt u c) := by
  rw [v.pixelAt_eq_getD, v.line_layerWrite, v.pixelAt_eq_getD]
  cases supplied (v.vis wb (u.laneAt c)) m p with
  | none => rfl
  | some shown => simp [hc]

theorem Screen.pixelAt_layerWrite_of_ne (v : Screen) {c c' : Nat} (p : Pixel) (m : Bool) (wb : Byte) (u : State) (h : c ≠ c') :
    v.pixelAt (layerWrite c p m wb u) c' = v.pixelAt u c' := by
  rw [v.pixelAt_eq_getD, v.line_layerWrite, v.pixelAt_eq_getD]
  cases supplied (v.vis wb (u.laneAt c)) m p with
  | none => rfl
  | some shown => simp [List.getElem?_set_ne h]

/-- A layer write changes the line buffers only. -/
theorem layerWrite_frame (c : Nat) (p : Pixel) (m : Bool) (wb : Byte) (u : State) :
    layerWrite c p m wb u = u.setLines (layerWrite c p m wb u).main (layerWrite c p m wb u).sub := rfl

/-! ### The loop over the sprite's screen columns -/

/-- The pixel that the loop of R250 fetches at offset `lx` of the sprite's screen width. -/
def blitFetch (q : BitVec 4) (i : Byte) (s : State) (lx : Nat) : Pixel :=
  sprPixel s ((s.sprite i).gx &&& 0xF8#8) (s.sprite i).gy
    (srcCoord (lx : Int) ((s.sprite i).width.toNat : Int) (blitFlipX q) (blitDouble q))
    (srcCoord ((s.row : Int) - (s.sprite i).y.toInt) ((s.sprite i).height.toNat : Int) (blitFlipY q) (blitDouble q))

/-- The loop's turn for offset `lx`, `s` being the state the loop began in. -/
def blitTurn (q : BitVec 4) (i : Byte) (s u : State) (lx : Nat) : State :=
  if (s.sprite i).x.toInt + (lx : Int) < 0 ∨ (s.sprite i).x.toInt + (lx : Int) > 239 then u
  else layerWrite ((s.sprite i).x.toInt + (lx : Int)).toNat (blitFetch q i s lx) (blitCmath q) (s.sprite i).windows u

/-- The model's loop runs over the offsets as integers. -/
theorem blitLoop_eq_foldl (q : BitVec 4) (i : Byte) (s : State) :
    blitLoop q i s = (List.range (screenSize (s.sprite i).width (blitDouble q))).foldl (blitTurn q i s) s := by
  rw [blitLoop, bind_pure_comp, List.map_eq_map, List.foldl_map]
  rfl

/-- The blit's pixel at the column of an offset is the one the loop fetches there. -/
theorem sprColumn_of_offset {q : BitVec 4} {i : Byte} {s : State} {lx c : Nat}
    (hlx : lx < screenSize (s.sprite i).width (blitDouble q)) (hc : (s.sprite i).x.toInt + (lx : Int) = c) :
    sprColumn s (s.sprite i) q s.row c = some (blitFetch q i s lx) := by
  have hoffset : (c : Int) - (s.sprite i).x.toInt = lx := by omega
  rw [sprColumn, hoffset, if_pos ⟨Int.natCast_nonneg lx, Int.ofNat_lt.2 hlx⟩, blitFetch]

theorem sprColumn_of_lt {q : BitVec 4} {i : Byte} {s : State} {c : Nat} (h : (c : Int) < (s.sprite i).x.toInt) :
    sprColumn s (s.sprite i) q s.row c = none :=
  if_neg fun hoffset => by omega

theorem sprColumn_of_ge {q : BitVec 4} {i : Byte} {s : State} {c : Nat}
    (h : (s.sprite i).x.toInt + (screenSize (s.sprite i).width (blitDouble q) : Int) ≤ c) :
    sprColumn s (s.sprite i) q s.row c = none :=
  if_neg fun hoffset => by omega

/-- `u` is what the loop has made of `s` after `n` turns: the columns left of the next one hold what the blit leaves there, the others
are as before. -/
structure BlitTurned (q : BitVec 4) (i : Byte) (s : State) (n : Nat) (u : State) : Prop where
  lines : u = s.setLines u.main u.sub
  length : ∀ v : Screen, (v.line u).length = 240
  left : ∀ (v : Screen) (c : Nat), c < 240 → (c : Int) < (s.sprite i).x.toInt + (n : Int) →
    v.pixelAt u c = v.pixelAt (sprBlitKey q i s) c
  right : ∀ (v : Screen) (c : Nat), c < 240 → (s.sprite i).x.toInt + (n : Int) ≤ c → v.pixelAt u c = v.pixelAt s c

section
variable {q : BitVec 4} {i : Byte} {s u : State} {n : Nat}

/-- Before the first turn: the blit leaves the columns left of the sprite as they are. -/
theorem BlitTurned.zero (hmain : s.main.length = 240) (hsub : s.sub.length = 240) : BlitTurned q i s 0 s where
  lines := rfl
  length v := by
    cases v with
    | main => exact hmain
    | sub => exact hsub
  left v c hc h := (v.pixelAt_sprBlitKey_of_none hc (sprColumn_of_lt (by omega))).symm
  right _ _ _ _ := rfl

theorem BlitTurned.laneAt (h : BlitTurned q i s n u) (c : Nat) : u.laneAt c = s.laneAt c := by
  rw [h.lines]; rfl

/-- A turn whose column lies off the screen is skipped (R260). -/
theorem BlitTurned.succ_of_off (h : BlitTurned q i s n u)
    (hoff : (s.sprite i).x.toInt + (n : Int) < 0 ∨ (s.sprite i).x.toInt + (n : Int) > 239) : BlitTurned q i s (n + 1) u where
  lines := h.lines
  length := h.length
  left v c hc hleft := h.left v c hc (by omega)
  right v c hc hright := h.right v c hc (by omega)

/-- A turn at column `k` writes there what the blit leaves there, and nothing else. -/
theorem BlitTurned.succ_of_on (h : BlitTurned q i s n u) (hn : n < screenSize (s.sprite i).width (blitDouble q)) {k : Nat}
    (hk : k < 240) (hcolumn : (s.sprite i).x.toInt + (n : Int) = k) :
    BlitTurned q i s (n + 1) (layerWrite k (blitFetch q i s n) (blitCmath q) (s.sprite i).windows u) where
  lines := by
    apply eq_setLines
    rw [layerWrite_frame, h.lines, setLines_setLines]
  length v := (v.length_line_layerWrite _ _ _ _ u).trans (h.length v)
  left v c hc hleft := by
    by_cases hck : c = k
    · rw [hck, v.pixelAt_layerWrite _ _ _ (hk.trans_eq (h.length v).symm), h.laneAt, h.right v k hk hcolumn.le,
        v.pixelAt_sprBlitKey_of_some hk (sprColumn_of_offset hn hcolumn)]
    · rw [v.pixelAt_layerWrite_of_ne _ _ _ u (Ne.symm hck)]
      exact h.left v c hc (by omega)
  right v c hc hright := by
    rw [v.pixelAt_layerWrite_of_ne _ _ _ u (by omega)]
    exact h.right v c hc (by omega)

theorem BlitTurned.succ (h : BlitTurned q i s n u) (hn : n < screenSize (s.sprite i).width (blitDouble q)) :
    BlitTurned q i s (n + 1) (blitTurn q i s u n) := by
  rw [blitTurn]
  split
  next hoff => exact h.succ_of_off hoff
  next hon => exact h.succ_of_on hn (by omega) (by omega)

end

/-- The loop's turns, by induction on their number. -/
theorem blitTurned_foldl {q : BitVec 4} {i : Byte} {s : State} (hmain : s.main.length = 240) (hsub : s.sub.length = 240) (n : Nat)
    (hn : n ≤ screenSize (s.sprite i).width (blitDouble q)) :
    BlitTurned q i s n ((List.range n).foldl (blitTurn q i s) s) := by
  induction n with
  | zero => exact BlitTurned.zero hmain hsub
  | succ n ih =>
    rw [List.range_succ, List.foldl_append]
    exact (ih (by omega)).succ (by omega)

/-- After its last turn the loop has left on every column what the blit leaves: the blit does not reach right of the sprite. -/
theorem Screen.pixelAt_of_blitTurned (v : Screen) {q : BitVec 4} {i : Byte} {s u : State}
    (h : BlitTurned q i s (screenSize (s.sprite i).width (blitDouble q)) u) {c : Nat} (hc : c < 240) :
    v.pixelAt u c = v.pixelAt (sprBlitKey q i s) c := by
  rcases lt_or_ge (c : Int) ((s.sprite i).x.toInt + (screenSize (s.sprite i).width (blitDouble q) : Int)) with hleft | hright
  · exact h.left v c hc hleft
  · rw [h.right v c hc hright, v.pixelAt_sprBlitKey_of_none hc (sprColumn_of_ge hright)]

/-- Two line buffers of 240 columns are equal when their columns are. -/
theorem Screen.line_ext (v : Screen) {s t : State} (hs : (v.line s).length = 240) (ht : (v.line t).length = 240)
    (h : ∀ c < 240, v.pixelAt s c = v.pixelAt t c) : v.line s = v.line t := by
  simp only [v.pixelAt_eq_getD] at h
  exact (row240_ext hs h).trans (row240_ext ht fun _ _ => rfl).symm

theorem Screen.length_line_sprBlitKey (v : Screen) (q : BitVec 4) (i : Byte) (s : State) :
    (v.line (sprBlitKey q i s)).length = 240 := by
  cases v <;> exact row240_length _

/-- Settles O17: both leave the same 240 columns on each screen and change nothing else. -/
theorem blitIsTheLoopOfItsRule : Obligations.BlitIsTheLoopOfItsRule := by
  intro q i s hmain hsub
  have hturned := blitTurned_foldl (q := q) (i := i) hmain hsub _ le_rfl
  rw [← blitLoop_eq_foldl] at hturned
  have hline (v : Screen) : v.line (sprBlitKey q i s) = v.line (blitLoop q i s) :=
    v.line_ext (v.length_line_sprBlitKey q i s) (hturned.length v) fun _ hc => (v.pixelAt_of_blitTurned hturned hc).symm
  calc sprBlitKey q i s = s.setLines (sprBlitKey q i s).main (sprBlitKey q i s).sub := sprBlitKey_frame q i s
    _ = s.setLines (blitLoop q i s).main (blitLoop q i s).sub := congrArg₂ s.setLines (hline .main) (hline .sub)
    _ = blitLoop q i s := hturned.lines.symm

end Sys2Proof.Machine
end

section
/-!
The colour math of `45_color_math.md`: the blend of one channel on integers and its range (R281, R282), one pixel channel by channel with
its marker (R270, R271, R280), the 256 colour-math microcodes, and the properties of R284.
-/

namespace Sys2Proof.Machine

/-! ### The stages on integers -/

theorem stage_cast (on : Bool) (g : Nat → Nat) (v : Nat) :
    ((stage on g v : Nat) : Int) = if on then ((g v : Nat) : Int) else (v : Int) := by
  rw [stage, Nat.cast_ite]

theorem double31_cast (v : Nat) : ((double31 v : Nat) : Int) = min 31 (2 * (v : Int)) := by
  simp [double31]

theorem half31_cast (v : Nat) : ((half31 v : Nat) : Int) = (v : Int) / 2 := by
  simp [half31]

theorem add31_cast (s m : Nat) : ((add31 s m : Nat) : Int) = min 31 ((m : Int) + s) := by
  simp [add31]

/-- Subtraction that stops at 0 is the integers' difference cut at 0 (R277). -/
theorem sub31_cast (s m : Nat) : ((sub31 s m : Nat) : Int) = max 0 ((m : Int) - s) := by
  rw [sub31]
  omega

theorem fade31_cast (lvl m : Nat) : ((fade31 lvl m : Nat) : Int) = (m : Int) * lvl / 256 := by
  simp [fade31]

theorem State.fadeLevel_cast (s : State) : (s.fadeLevel : Int) = min (s.regs.cmathFade.toNat : Int) 256 := by
  simp [State.fadeLevel]

/-- The machine's blend is `Blend` of R281 on integers. -/
theorem blend_cast (f : Byte) (lvl m s : Nat) : ((blend f lvl m s : Nat) : Int) = blendSpec f lvl m s := by
  simp only [blend, scaledMain, scaledSub, stage_cast, double31_cast, half31_cast, add31_cast, sub31_cast, fade31_cast, blendSpec,
    cmHalfMain, cmDoubleMain, cmHalfSub, cmDoubleSub, cmAddSub, cmSubSub, cmFade]

/-! ### A channel's range -/

/-- A stage that keeps a value at most 31 does so whether its bit is set or not. -/
theorem stage_le {on : Bool} {g : Nat → Nat} {v : Nat} (hg : v ≤ 31 → g v ≤ 31) (hv : v ≤ 31) : stage on g v ≤ 31 := by
  cases on with
  | false => exact hv
  | true => exact hg hv

theorem double31_le (v : Nat) : double31 v ≤ 31 := Nat.min_le_left 31 _

theorem half31_le (v : Nat) : half31 v ≤ v := Nat.div_le_self v 2

theorem add31_le (s m : Nat) : add31 s m ≤ 31 := Nat.min_le_left 31 _

theorem sub31_le (s m : Nat) : sub31 s m ≤ m := Nat.sub_le m s

theorem fade31_le {lvl : Nat} (hlvl : lvl ≤ 256) (m : Nat) : fade31 lvl m ≤ m := by
  rw [fade31]
  exact Nat.div_le_of_le_mul (Nat.mul_comm 256 m ▸ Nat.mul_le_mul_left m hlvl)

theorem scaledMain_le (f : Byte) {m : Nat} (hm : m ≤ 31) : scaledMain f m ≤ 31 :=
  stage_le (half31_le _).trans (stage_le (fun _ => double31_le m) hm)

/-- No stage leaves the 32 values of a channel (R282). -/
theorem blend_le (f : Byte) {lvl m : Nat} (hlvl : lvl ≤ 256) (hm : m ≤ 31) (s : Nat) : blend f lvl m s ≤ 31 := by
  have hadd : stage (cmAddSub f) (add31 (scaledSub f s)) (scaledMain f m) ≤ 31 :=
    stage_le (fun _ => add31_le _ _) (scaledMain_le f hm)
  exact stage_le (fade31_le hlvl _).trans (stage_le (sub31_le _ _).trans hadd)

theorem State.fadeLevel_le (s : State) : s.fadeLevel ≤ 256 := Nat.min_le_right _ 256

/-! ### Packing a pixel -/

theorem chanA_packPixel (mark : Bool) (c b a : Nat) : chanA (packPixel mark c b a) = a % 32 := by
  rw [chanA, packPixel, BitVec.extractLsb'_append_eq_right, BitVec.toNat_ofNat]

theorem chanB_packPixel (mark : Bool) (c b a : Nat) : chanB (packPixel mark c b a) = b % 32 := by
  rw [chanB, packPixel, BitVec.extractLsb'_append_eq_of_le (by decide), BitVec.extractLsb'_append_eq_right, BitVec.toNat_ofNat]

theorem chanC_packPixel (mark : Bool) (c b a : Nat) : chanC (packPixel mark c b a) = c % 32 := by
  rw [chanC, packPixel, BitVec.extractLsb'_append_eq_of_le (by decide), BitVec.extractLsb'_append_eq_of_le (by decide),
    BitVec.extractLsb'_append_eq_right, BitVec.toNat_ofNat]

theorem marked_packPixel (mark : Bool) (c b a : Nat) : marked (packPixel mark c b a) = mark := by
  rw [marked, packPixel, BitVec.getLsbD_append, BitVec.getLsbD_append, BitVec.getLsbD_append]
  simp

/-! ### One pixel -/

/-- A marked pixel is blended under CMATH_EN (R271). -/
theorem cmathPixel_of_blended {f : Byte} {m : Pixel} (h : f.getLsbD 7 = true ∧ m.getLsbD 15 = true) (lvl : Nat) (s : Pixel) :
    cmathPixel f lvl m s =
      packPixel (marked m) (blend f lvl (chanC m) (chanC s)) (blend f lvl (chanB m) (chanB s)) (blend f lvl (chanA m) (chanA s)) :=
  if_pos (Bool.and_eq_true_iff.2 h)

/-- Every other pixel passes (R271). -/
theorem cmathPixel_of_not_blended {f : Byte} {m : Pixel} (h : ¬(f.getLsbD 7 = true ∧ m.getLsbD 15 = true)) (lvl : Nat) (s : Pixel) :
    cmathPixel f lvl m s = m :=
  if_neg fun hand => h (Bool.and_eq_true_iff.1 hand)

/-- The output pixel has the main pixel's marker, blended or not (R280). -/
theorem cmathPixel_marker (f : Byte) (lvl : Nat) (m s : Pixel) : (cmathPixel f lvl m s).getLsbD 15 = m.getLsbD 15 := by
  by_cases h : f.getLsbD 7 = true ∧ m.getLsbD 15 = true
  · rw [cmathPixel_of_blended h]
    exact marked_packPixel _ _ _ _
  · rw [cmathPixel_of_not_blended h]

/-- Each channel of a blended pixel is the blend of that channel alone: packing cuts nothing off (R280, R282). -/
theorem cmathPixel_channel {f : Byte} {m : Pixel} (h : f.getLsbD 7 = true ∧ m.getLsbD 15 = true) {lvl : Nat} (hlvl : lvl ≤ 256)
    (s : Pixel) {lo : Nat} (hlo : lo ∈ [0, 5, 10]) :
    ((cmathPixel f lvl m s).extractLsb' lo 5).toNat = blend f lvl (m.extractLsb' lo 5).toNat (s.extractLsb' lo 5).toNat := by
  have hfits : blend f lvl (m.extractLsb' lo 5).toNat (s.extractLsb' lo 5).toNat % 32 =
      blend f lvl (m.extractLsb' lo 5).toNat (s.extractLsb' lo 5).toNat :=
    Nat.mod_eq_of_lt (Nat.lt_succ_of_le (blend_le f hlvl (Nat.le_of_lt_succ (m.extractLsb' lo 5).isLt) _))
  rw [cmathPixel_of_blended h, ← hfits]
  simp only [List.mem_cons, List.not_mem_nil, or_false] at hlo
  obtain rfl | rfl | rfl := hlo
  · exact chanA_packPixel _ _ _ _
  · exact chanB_packPixel _ _ _ _
  · exact chanC_packPixel _ _ _ _

/-! ### The colour-math instructions -/

/-- A colour-math instruction runs `CMath` with its word's key (R270, `30_encoding.md` R112). -/
theorem exec_of_encode_cmathKey {i : Instr} {f : Byte} (h : encode i = .cmathKey f) (s : State) :
    exec i s = .next (cmathRow f s) := by
  have hdecode := decodeOfEncodeIsTheInstruction i (wf_of_encode_ne_hdma (by simp [h]))
  rw [h] at hdecode
  rw [← runCode_of_decode hdecode, runCode_cmathKey]

/-- Settles O22: the instruction is `CMath` of its key, whose row is known column by column and channel by channel. -/
theorem colourMathBlendsTheMarkedPixels : Obligations.ColourMathBlendsTheMarkedPixels := by
  intro i f s hword
  refine ⟨_, exec_of_encode_cmathKey hword s, cmathRow_frame f s, fun c hc => ?_⟩
  rw [cmathRow_outAt f s hc]
  refine ⟨fun hblended => ⟨?_, fun lo hlo => ?_⟩, fun hpassed => cmathPixel_of_not_blended hpassed _ _⟩
  · exact (cmathPixel_marker _ _ _ _).trans hblended.2
  · dsimp only
    rw [cmathPixel_channel hblended s.fadeLevel_le _ hlo, blend_cast, s.fadeLevel_cast]

/-! ### The properties of R284 -/

/-- Double, then halve: the saturation at 31 shows as 15 (R273). -/
theorem blend_double_half (lvl m s : Nat) : blend 0x83#8 lvl m s = min 15 m := by
  have hstages : blend 0x83#8 lvl m s = half31 (double31 m) := rfl
  rw [hstages, half31, double31]
  omega

/-- Settles O23: the four are facts about one pixel. -/
theorem colourMathProperties : Obligations.ColourMathProperties := by
  intro f s c hc
  rw [cmathRow_outAt f s hc]
  refine ⟨fun hdisabled => ?_, fun hkey hmarked lo hlo => ?_, fun hunmarked => ?_, cmathPixel_marker _ _ _ _⟩
  · exact cmathPixel_of_not_blended (fun h => Bool.false_ne_true (hdisabled.symm.trans h.1)) _ _
  · subst hkey
    rw [cmathPixel_channel ⟨rfl, hmarked⟩ s.fadeLevel_le _ hlo, blend_double_half]
  · exact cmathPixel_of_not_blended (fun h => Bool.false_ne_true (hunmarked.symm.trans h.2)) _ _

end Sys2Proof.Machine
end

section
/-!
The host commands of `46_forced_blank_and_render.md`, each as what it answers from an idle machine (R300 to R302), and the steps of a
render: nine of them as one row (R303), and what any of them leaves alone (R306).
-/

namespace Sys2Proof.Machine

/-! ### Nine steps of a render -/

/-- At a row's first table `pc` is that row and table 0 (`10_state.md` R48). -/
theorem State.pc_eq_of_tbl_zero {s : State} (htbl : s.pc.tbl = 0#4) : s.pc = ⟨BitVec.ofNat 8 s.row, 0⟩ := by
  rw [State.row, BitVec.ofNat_toNat, BitVec.setWidth_eq]
  exact congrArg (Pc.mk s.pc.row) htbl

/-- Settles O30: the nine steps of the row `pc` names. -/
theorem nineStepsRenderARow : Obligations.NineStepsRenderARow :=
  fun s hs htbl => runsTo_renderRow s.pc.row.isLt hs (State.pc_eq_of_tbl_zero htbl)

/-! ### What a step of a render leaves alone -/

/-- A step of a render is a table's turn, which changes the State Store and `pc`, or composes the row and ends it (R303). -/
theorem step_rendering_cases {s t : State} (hs : Rendering s) (h : step s = .next t) :
    (∃ r p, t = (s.setRegs r).setPc p) ∨ ∃ k, t = finishRow (composeRow k (prepareRow s)) := by
  rw [step_rendering hs, busyTurn] at h
  split at h
  · left
    unfold hdmaTurn at h
    split at h
    · obtain ⟨r, hr⟩ := hdmaExec_regs s.pc.tbl.toNat s.currentEntry s
      rw [runCode_hdma, hr] at h
      exact ⟨r, _, (Host.Outcome.next.inj h).symm⟩
    · exact ⟨s.regs, _, (Host.Outcome.next.inj h).symm⟩
  · right
    rw [composeTurn_eq] at h
    exact ⟨_, (Host.Outcome.next.inj h).symm⟩

/-- The end of a row changes BUSY and `pc` only (`10_state.md` R46, R48). -/
theorem finishRow_parts (s : State) : ∃ b p, finishRow s = (s.setBusy b).setPc p := by
  unfold finishRow
  split
  · exact ⟨0#1, s.pc, rfl⟩
  · exact ⟨s.busy, _, rfl⟩

@[simp] theorem finishRow_fb (s : State) : (finishRow s).fb = s.fb := by
  obtain ⟨b, p, h⟩ := finishRow_parts s
  rw [h, State.setPc_fb, State.setBusy_fb]

/-- A step of a render changes the State Store, BUSY, `pc`, the scratch and the frame buffer only (R306). -/
theorem step_rendering_parts {s t : State} (hs : Rendering s) (h : step s = .next t) :
    ∃ r b p c0 c1 w m l o f,
      t = (((((((s.setRegs r).setBusy b).setPc p).setCache c0 c1).setWmask w).setLines m l).setOut o).setFb f := by
  rcases step_rendering_cases hs h with ⟨r, p, rfl⟩ | ⟨k, rfl⟩
  · exact ⟨r, s.busy, p, s.cache0, s.cache1, s.wmask, s.main, s.sub, s.out, s.fb, rfl⟩
  · obtain ⟨b, p, hfinish⟩ := finishRow_parts (composeRow k (prepareRow s))
    rw [hfinish, composeRow_frame, prepareRow_frame]
    exact ⟨s.regs, b, p, _, _, _, _, _, _, _, rfl⟩

/-- Column `c` of a row stands at most 14399 addresses after the latched base, and a step of a render stores no other pixels than
a row's (R233, `20_memory.md` R76, R78). -/
theorem step_rendering_pixel?_other {s t : State} (hs : Rendering s) (h : step s = .next t) {a : Nat}
    (ha : ∀ k < 14400, a ≠ (s.fbLatch + k) % 2 ^ Config.fbAW) : Mem.pixel? t.fb a = Mem.pixel? s.fb a := by
  rcases step_rendering_cases hs h with ⟨r, p, rfl⟩ | ⟨k, rfl⟩
  · rfl
  · rw [finishRow_fb, composeRow_pixel?_other, prepareRow_fb]
    intro c hc
    rw [prepareRow_fbLatch, Nat.add_assoc]
    exact ha _ (by omega)

/-- Settles O34: a step's parts are not among what is said to stay, and its stores keep to the section's addresses. -/
theorem renderingChangesOnlyWhatTheSpecLists : Obligations.RenderingChangesOnlyWhatTheSpecLists := by
  intro s t hs h
  have hpixels := fun a => step_rendering_pixel?_other hs h (a := a)
  have ⟨_, hdispatch, _⟩ := hs
  obtain ⟨r, b, p, c0, c1, w, m, l, o, f, rfl⟩ := step_rendering_parts hs h
  exact ⟨rfl, rfl, rfl, rfl, rfl, rfl, rfl, rfl, rfl, rfl, rfl, rfl, rfl, hdispatch, hpixels⟩

/-! ### `RENDER` -/

theorem sectionOf_eq (v : Half) : sectionOf v = v.toNat % 4 := by
  rw [sectionOf, BitVec.extractLsb'_toNat, Nat.shiftRight_zero]

@[simp] theorem acceptRender_fb (t : Nat) (s : State) : (acceptRender t s).fb = s.fb := rfl

@[simp] theorem acceptRender_blanked (t : Nat) (s : State) : (acceptRender t s).blanked = s.blanked := rfl

/-- `RENDER` of an idle, backed machine is accepted: it clears its section under forced blank and starts it otherwise (R300, R301). -/
theorem execRender_of_idle (v : Half) {s : State} (hidle : s.busy = 0#1) (hbacked : RegionBacked s s.fbBase) :
    execRender v s = .next (if s.forcedBlank = 1#1 then forcedBlank (v.toNat % 4) s.fbBase (acceptRender (v.toNat % 4) s)
      else launched (v.toNat % 4) s) := by
  rw [execRender, sectionOf_eq, if_neg (by rw [hidle]; decide), if_neg (by rw [(s.regionPresent_iff _).2 hbacked]; decide),
    apply_ite Host.Outcome.next]
  rfl

/-- Settles O24: outside forced blank an accepted `RENDER` launches its section. -/
theorem renderStartsItsSection : Obligations.RenderStartsItsSection := by
  intro v s hidle hbacked hfb
  rw [exec_render, execRender_of_idle v hidle hbacked, if_neg (by rw [hfb]; decide)]
  rfl

/-! ### The forced-blank fast path -/

/-- The fast path changes the frame buffer and x[33] only (R301). -/
theorem forcedBlank_parts (t base : Nat) (s : State) :
    ∃ f b, forcedBlank t base s = (s.setFb f).setBlanking s.forcedBlank b := by
  unfold forcedBlank
  split
  · exact ⟨s.fb, s.blanked, rfl⟩
  · exact ⟨_, _, rfl⟩

theorem forcedBlank_of_blanked {t : Nat} (base : Nat) {s : State} (h : s.blanked.getLsbD t = true) : forcedBlank t base s = s :=
  if_pos h

/-- A section's worth of 0x0000 (R301). -/
def sectionZeros : List Pixel := List.replicate Config.sectionPixels 0

theorem sectionZeros_length : sectionZeros.length = 14400 := List.length_replicate

theorem forcedBlank_of_not_blanked {t : Nat} (base : Nat) {s : State} (h : s.blanked.getLsbD t = false) :
    forcedBlank t base s =
      (s.setFb (Mem.storePixels s.fb base sectionZeros)).setBlanking s.forcedBlank (s.blanked ||| (1#4) <<< t) :=
  if_neg (by rw [sectionBlanked, h]; decide)

/-- Setting bit `t` of x[33] adds section `t` to the blanked ones (`10_state.md` R43). -/
theorem blanked_or_bit_getLsbD (b : BitVec 4) (t : Nat) {j : Nat} (hj : j < 4) :
    (b ||| (1#4) <<< t).getLsbD j = (b.getLsbD j || decide (j = t)) := by
  rw [BitVec.getLsbD_or, ← BitVec.twoPow_eq, BitVec.getLsbD_twoPow]
  by_cases h : j = t
  · subst h
    simp [hj]
  · simp [h, Ne.symm h]

/-- A run of 14400 zeros is read back at each of its addresses (R301, `20_memory.md` R78). -/
theorem Mem.pixel?_storeZeros (m : Mem) (base : Nat) {k : Nat} (hk : k < 14400) :
    Mem.pixel? (Mem.storePixels m base sectionZeros) ((base + k) % 2 ^ Config.fbAW) = some 0 := by
  have hfit : sectionZeros.length ≤ 2 ^ Config.fbAW := sectionZeros_length.trans_le sectionPixels_le
  rw [← fbWrap_eq, Mem.pixel?_storePixels _ _ _ hfit k (hk.trans_eq sectionZeros_length.symm)]
  simp only [sectionZeros, List.getElem_replicate]

/-- It leaves every other address as it is. -/
theorem Mem.pixel?_storeZeros_other (m : Mem) (base : Nat) {a : Nat} (ha : ∀ k < 14400, a ≠ (base + k) % 2 ^ Config.fbAW) :
    Mem.pixel? (Mem.storePixels m base sectionZeros) a = Mem.pixel? m a := by
  apply Mem.pixel?_storePixels_other
  intro k hk
  rw [fbWrap_eq]
  exact ha k (hk.trans_eq sectionZeros_length)

/-- Settles O25: under forced blank an accepted `RENDER` is the fast path, which looks at its section's bit of x[33] first. -/
theorem forcedBlankClearsASectionOnce : Obligations.ForcedBlankClearsASectionOnce := by
  intro v s hidle hbacked hfb
  refine ⟨forcedBlank (v.toNat % 4) s.fbBase (acceptRender (v.toNat % 4) s), ?_, ?_, fun hblanked => ?_, fun hfresh => ?_⟩
  · rw [exec_render, execRender_of_idle v hidle hbacked, if_pos hfb]
  · obtain ⟨f, b, hparts⟩ := forcedBlank_parts (v.toNat % 4) s.fbBase (acceptRender (v.toNat % 4) s)
    rw [hparts]
    rfl
  · rw [forcedBlank_of_blanked _ (s := acceptRender (v.toNat % 4) s) hblanked]
    exact ⟨rfl, rfl⟩
  · rw [forcedBlank_of_not_blanked _ (s := acceptRender (v.toNat % 4) s) hfresh, State.setBlanking_fb, State.setFb_fb,
      State.setBlanking_blanked, acceptRender_fb, acceptRender_blanked]
    exact ⟨fun k hk => Mem.pixel?_storeZeros s.fb s.fbBase hk, fun a ha => Mem.pixel?_storeZeros_other s.fb s.fbBase ha,
      fun j hj => blanked_or_bit_getLsbD s.blanked _ hj⟩

/-! ### `BLANK` -/

theorem blankBit_toNat (v : Half) : (blankBit v).toNat = v.toNat % 2 := by
  rw [blankBit, BitVec.extractLsb'_toNat, Nat.shiftRight_zero]

theorem blankBit_eq_zero_iff (v : Half) : blankBit v = 0#1 ↔ v.toNat % 2 = 0 := by
  rw [← BitVec.toNat_inj, blankBit_toNat]
  rfl

/-- `BLANK` of an idle machine stores its bit, and 0 forgets which sections are blanked (R302). -/
theorem execBlank_of_idle (v : Half) {s : State} (hidle : s.busy = 0#1) :
    execBlank v s = .next (s.setBlanking (blankBit v) (if blankBit v = 0#1 then 0 else s.blanked)) :=
  if_neg (by rw [hidle]; decide)

/-- Settles O26: x[33] is kept or cleared by the bit that x[32] takes. -/
theorem blankWritesTheFlagAndClearsTheTracking : Obligations.BlankWritesTheFlagAndClearsTheTracking := by
  intro v s hidle
  refine ⟨_, (exec_blank v s).trans (execBlank_of_idle v hidle), rfl, blankBit_toNat v, fun h0 => ?_, fun h1 => ?_⟩
  · exact if_pos ((blankBit_eq_zero_iff v).2 h0)
  · exact if_neg (mt (blankBit_eq_zero_iff v).1 (by omega))

end Sys2Proof.Machine
end

section
/-!
What never stops and what never changes (`60_exceptions.md`, `70_reset_and_hazards.md`): every step but a launch without its frame-buffer
memory answers a next state (R320, R322), an idle machine without an access keeps its state (R332), and a section rendered with nothing
enabled is black, as from reset (R350, R351).
-/

namespace Sys2Proof.Machine

/-! ### The idle machine -/

/-- Settles O47: the step is the host's turn, and the host has no access to make. -/
theorem idleStepWithoutAnAccessChangesNothing : Obligations.IdleStepWithoutAnAccessChangesNothing := by
  intro s hidle hd hhost
  rw [step_idle s hd hidle, hostTurn, hhost]

/-! ### A launch without its frame-buffer memory -/

/-- `RENDER` of an idle machine looks at the frame-buffer memory before FORCED_BLANK (R322, log 28). -/
theorem execRender_of_absent (v : Half) {s : State} (hidle : s.busy = 0#1) (habsent : ¬RegionBacked s s.fbBase) :
    execRender v s = .refused .frameBufferAbsent := by
  have hpresent : s.regionPresent s.fbBase = false := Bool.eq_false_iff.2 (mt (s.regionPresent_iff _).1 habsent)
  rw [execRender, if_neg (by rw [hidle]; decide), if_pos hpresent]

/-- Settles O48: the instruction is `execRender`, whose check fails. -/
theorem renderIsRefusedWithoutItsFrameBuffer : Obligations.RenderIsRefusedWithoutItsFrameBuffer := by
  intro v s hidle habsent
  rw [exec_render, execRender_of_absent v hidle habsent]

/-! ### Every other step answers a next state -/

/-- An HDMA entry is a command whatever it holds, so a table's turn completes (`40_hdma.md` R141). -/
theorem hdmaTurn_completes (s : State) : ∃ t, hdmaTurn s = .next t := by
  unfold hdmaTurn
  split
  · exact ⟨_, by rw [runCode_hdma, onNext]⟩
  · exact ⟨_, rfl⟩

/-- A turn of the sequencer completes: every entry is a command and every main key has its microcode (R320). -/
theorem busyTurn_completes (s : State) : ∃ t, busyTurn s = .next t := by
  unfold busyTurn
  split
  · exact hdmaTurn_completes s
  · exact ⟨_, composeTurn_eq s⟩

/-- An access of the host is the command `BLANK`, the command `RENDER`, or plain (`30_encoding.md` R119). -/
theorem hostAccess_cases (a : HostAccess) :
    (∃ v, a = .write (.reg 32#6) v) ∨ (∃ v, a = .write (.reg 35#6) v) ∨ hostCode a = none := by
  cases a with
  | read p => exact .inr (.inr rfl)
  | write p v =>
    by_cases hblank : p = .reg 32#6
    · exact .inl ⟨v, by rw [hblank]⟩
    · by_cases hrender : p = .reg 35#6
      · exact .inr (.inl ⟨v, by rw [hrender]⟩)
      · exact .inr (.inr (hostCode_write_eq_none v hblank hrender))

/-- An idle step whose host writes x[35] runs `RENDER` (`10_state.md` R45). -/
theorem step_renderWrite {s : State} {v : Entry} {rest : List HostAccess} (hidle : s.busy = 0#1) (hd : s.dispatch = none)
    (hhost : s.host = .write (.reg 35#6) v :: rest) : step s = execRender (v.truncate 16) (s.setHost rest) := by
  rw [step_hostCommand hidle hd hhost rfl, runCode_render]

/-- An idle step whose host writes x[32] runs `BLANK` (`10_state.md` R42). -/
theorem step_blankWrite {s : State} {v : Entry} {rest : List HostAccess} (hidle : s.busy = 0#1) (hd : s.dispatch = none)
    (hhost : s.host = .write (.reg 32#6) v :: rest) : step s = execBlank (v.truncate 16) (s.setHost rest) := by
  rw [step_hostCommand hidle hd hhost rfl, runCode_blank]

/-- An idle step completes, a `RENDER` if its frame-buffer memory is there. -/
theorem step_idle_completes {s : State} (hidle : s.busy = 0#1) (hd : s.dispatch = none)
    (hbacked : ∀ v rest, s.host = .write (.reg 35#6) v :: rest → RegionBacked s s.fbBase) : ∃ t, step s = .next t := by
  cases hhost : s.host with
  | nil => exact ⟨s, idleStepWithoutAnAccessChangesNothing s hidle hd hhost⟩
  | cons a rest =>
    obtain ⟨v, rfl⟩ | ⟨v, rfl⟩ | hplain := hostAccess_cases a
    · exact ⟨_, (step_blankWrite hidle hd hhost).trans (execBlank_of_idle _ hidle)⟩
    · exact ⟨_, (step_renderWrite hidle hd hhost).trans (execRender_of_idle _ hidle (hbacked v rest hhost))⟩
    · exact ⟨_, step_plainAccess hidle hd hhost hplain⟩

/-- The access that does not wait for a render to end is the read of STATUS (`20_memory.md` R79). -/
theorem host_of_pollsStatus {s : State} (h : pollsStatus s = true) : ∃ rest, s.host = .read (.reg 36#6) :: rest := by
  unfold pollsStatus at h
  split at h
  · next n rest hhost => exact ⟨rest, by rw [hhost, eq_of_beq h]⟩
  · cases h

/-- During a render every step completes: it serves a read of STATUS or is the sequencer's (R320). -/
theorem step_busy_completes {s : State} (hbusy : s.busy = 1#1) (hd : s.dispatch = none) : ∃ t, step s = .next t := by
  cases hpolls : pollsStatus s with
  | false =>
    rw [step_rendering ⟨hbusy, hd, hpolls⟩]
    exact busyTurn_completes s
  | true =>
    obtain ⟨rest, hhost⟩ := host_of_pollsStatus hpolls
    exact ⟨_, step_statusRead hbusy hd hhost⟩

/-- Settles O33: a refused launch is `RENDER`'s own refusal; any other step completes, idle or busy. -/
theorem everyStepAnswersANextState : Obligations.EveryStepAnswersANextState := by
  intro s hd
  refine ⟨fun ⟨hidle, ⟨v, rest, hhost⟩, habsent⟩ => ?_, fun hnot => ?_⟩
  · rw [step_renderWrite hidle hd hhost]
    exact execRender_of_absent (s := s.setHost rest) _ hidle habsent
  · obtain hidle | hbusy := BitVec.eq_zero_or_eq_one s.busy
    · exact step_idle_completes hidle hd fun v rest hhost =>
        by_contra fun habsent => hnot ⟨hidle, ⟨v, rest, hhost⟩, habsent⟩
    · exact step_busy_completes hbusy hd

/-! ### A row with nothing enabled -/

/-- Nothing is enabled: no table in x[19], no layer and no colour math in the dispatch key of x[8], and a main colour of 0x0000 (R351). -/
def NothingEnabled (r : Regs) : Prop := r.hdmaEnable = 0 ∧ mainKeyOf r.mainFlags = 0 ∧ r.mainColour = 0

/-- The turns of disabled tables move `pc` and do nothing else (`40_hdma.md` R140). -/
theorem hdmaTurns_of_disabled {s : State} (h : s.regs.hdmaEnable = 0) (row n : Nat) :
    hdmaTurns row n s = s.setPc ⟨BitVec.ofNat 8 row, BitVec.ofNat 4 n⟩ := by
  induction n with
  | zero => exact hdmaTurns_zero row s
  | succ n ih =>
    have hdisabled : tableEnabled s.regs.hdmaEnable n = false := by rw [h]; exact BitVec.getLsbD_zero
    have hturn : hdmaApplyTable row n s = s.setPc ⟨BitVec.ofNat 8 row, BitVec.ofNat 4 n⟩ :=
      if_neg (by rw [State.setPc_regs, hdisabled]; exact Bool.false_ne_true)
    rw [hdmaTurns_succ, ih, hdmaApplyTable_setPc, hturn, State.setPc_setPc]

theorem hdmaApply_of_disabled {s : State} (h : s.regs.hdmaEnable = 0) (row : Nat) :
    hdmaApply row s = s.setPc ⟨BitVec.ofNat 8 row, 8⟩ :=
  hdmaTurns_of_disabled h row 8

/-- Key 0 over the main colour 0x0000 gives a black row (`43_composition.md` R234). -/
theorem composeRow_out_of_black {s : State} (h : s.regs.mainColour = 0) : (composeRow 0x00#6 s).out = List.replicate 240 0 := by
  have hlength := composeRow_out_length 0x00#6 s
  refine List.ext_getElem (hlength.trans List.length_replicate.symm) fun c hc _ => ?_
  have hcolumn : c < 240 := hc.trans_eq hlength
  have hmain : (composeRow 0x00#6 s).mainAt c = s.regs.mainColour :=
    (Screen.main.pixelAt_composeRow_of_noLayers s hcolumn rfl).trans (fallbackPixel_plain _ s _ c)
  have hout : (composeRow 0x00#6 s).outAt c = 0 := by
    rw [composeRow_outAt _ s hcolumn, if_neg (by decide), hmain, h]
  rw [List.getElem_replicate, ← List.getD_eq_getElem _ 0 hc]
  exact hout

@[simp] theorem composeRow_regs (k : BitVec 6) (s : State) : (composeRow k s).regs = s.regs := by
  rw [composeRow_frame]; rfl

/-- With nothing enabled a row leaves the State Store registers alone. -/
theorem renderRow_regs_of_nothingEnabled {s : State} (h : NothingEnabled s.regs) (row : Nat) :
    (renderRow row s).regs = s.regs := by
  obtain ⟨htables, _, _⟩ := h
  rw [renderRow_eq, composeRow_regs, prepareRow_regs, hdmaApply_of_disabled htables, State.setPc_regs]

/-- With nothing enabled a row's output is black. -/
theorem renderRow_out_of_nothingEnabled {s : State} (h : NothingEnabled s.regs) (row : Nat) :
    (renderRow row s).out = List.replicate 240 0 := by
  obtain ⟨htables, hkey, hcolour⟩ := h
  have hregs : (hdmaApply row s).regs = s.regs := by rw [hdmaApply_of_disabled htables, State.setPc_regs]
  rw [renderRow_eq, hregs, hkey]
  exact composeRow_out_of_black (by rw [prepareRow_regs, hregs, hcolour])

/-- What row `n` of a section stores, and from where on, is its output row at `B + 240 * n` (`20_memory.md` R78). -/
theorem renderRow_fb_eq_storePixels {t n : Nat} (ht : t < 4) (hn : n < 60) (s : State) :
    (renderRow (60 * t + n) s).fb = Mem.storePixels s.fb (s.fbLatch + 240 * n) (renderRow (60 * t + n) s).out := by
  have hrow : (prepareRow (hdmaApply (60 * t + n) s)).row % 60 = n := by
    have hsection := renderRow_rowInSection ht hn s
    rwa [renderRow_eq, State.rowInSection, State.row, composeRow_pc] at hsection
  rw [renderRow_eq, composeRow_fb_eq_storePixels, hrow, prepareRow_fb, prepareRow_fbLatch, hdmaApply_fb, hdmaApply_fbLatch]

/-! ### A section with nothing enabled -/

theorem renderFirstRows_regs_of_nothingEnabled {s : State} (h : NothingEnabled s.regs) (t n : Nat) :
    (renderFirstRows t n s).regs = s.regs := by
  induction n with
  | zero => rfl
  | succ n ih => rw [renderFirstRows_succ, renderRow_regs_of_nothingEnabled (by rwa [ih]), ih]

/-- With nothing enabled the first `n` rows of a section are stored as one black run from the latched base on. -/
theorem renderFirstRows_fb_of_nothingEnabled {s : State} (h : NothingEnabled s.regs) {t n : Nat} (ht : t < 4) (hn : n ≤ 60) :
    (renderFirstRows t n s).fb = Mem.storePixels s.fb s.fbLatch (List.replicate (240 * n) 0) := by
  induction n with
  | zero => rfl
  | succ n ih =>
    have hrows : NothingEnabled (renderFirstRows t n s).regs := by rwa [renderFirstRows_regs_of_nothingEnabled h]
    rw [renderFirstRows_succ, renderRow_fb_eq_storePixels ht hn, renderRow_out_of_nothingEnabled hrows, ih (by omega),
      renderFirstRows_fbLatch, Nat.mul_succ, List.replicate_add, Mem.storePixels_append, List.length_replicate]

/-- The render of a section is its 60 rows on the launched state, but for BUSY (R303). -/
theorem renderSection_eq (t : Nat) (s : State) :
    renderSection t s = (renderFirstRows t 60 ((s.setBusy 1#1).setFbLatch s.fbBase)).setBusy 0#1 := rfl

theorem renderSection_regs_of_nothingEnabled {s : State} (h : NothingEnabled s.regs) (t : Nat) :
    (renderSection t s).regs = s.regs := by
  rw [renderSection_eq, State.setBusy_regs,
    renderFirstRows_regs_of_nothingEnabled (s := (s.setBusy 1#1).setFbLatch s.fbBase) h]
  rfl

/-- With nothing enabled a section is stored as forced blank would: 14400 times 0x0000 from FB_BASE on. -/
theorem renderSection_fb_of_nothingEnabled {s : State} (h : NothingEnabled s.regs) {t : Nat} (ht : t < 4) :
    (renderSection t s).fb = Mem.storePixels s.fb s.fbBase sectionZeros := by
  have hcount : 240 * 60 = Config.sectionPixels := by decide
  rw [renderSection_eq, State.setBusy_fb,
    renderFirstRows_fb_of_nothingEnabled (s := (s.setBusy 1#1).setFbLatch s.fbBase) h ht le_rfl, hcount, ← sectionZeros,
    State.setFbLatch_fbLatch, State.setFbLatch_fb, State.setBusy_fb]

/-- Settles O49: the section is stored as one black run. -/
theorem nothingEnabledRendersBlack : Obligations.NothingEnabledRendersBlack := by
  intro s t ht htables hkey hcolour
  have hnothing : NothingEnabled s.regs := ⟨htables, hkey, hcolour⟩
  refine ⟨renderSection_regs_of_nothingEnabled hnothing t, fun k hk => ?_⟩
  rw [renderSection_fb_of_nothingEnabled hnothing ht, Mem.pixel?_storeZeros s.fb s.fbBase hk]

/-! ### The registers a render cannot reach -/

/-- FORCED_BLANK, BLANKED and FB_BASE: the registers that the host alone changes outside forced blank (`10_state.md` R42 to R44). -/
def State.control (s : State) : BitVec 1 × BitVec 4 × Nat := (s.forcedBlank, s.blanked, s.fbBase)

@[simp] theorem State.setBusy_control (s : State) (b : BitVec 1) : (s.setBusy b).control = s.control := rfl

@[simp] theorem State.setFbLatch_control (s : State) (a : Nat) : (s.setFbLatch a).control = s.control := rfl

theorem renderRow_control (row : Nat) (s : State) : (renderRow row s).control = s.control := by
  obtain ⟨r, p, hregs⟩ := hdmaTurns_parts row 8 s
  rw [renderRow_eq, composeRow_frame, prepareRow_frame, hdmaApply_eq_hdmaTurns, hregs]
  rfl

theorem renderFirstRows_control (t n : Nat) (s : State) : (renderFirstRows t n s).control = s.control := by
  induction n with
  | zero => rfl
  | succ n ih => rw [renderFirstRows_succ, renderRow_control, ih]

/-- No render outside forced blank changes FORCED_BLANK, BLANKED or FB_BASE (R306). -/
theorem renderSection_control (t : Nat) (s : State) : (renderSection t s).control = s.control := by
  rw [renderSection_eq, State.setBusy_control, renderFirstRows_control, State.setFbLatch_control, State.setBusy_control]

/-! ### Reset -/

/-- The scratch rows and lists have their sizes after reset (log 4). -/
theorem State.reset_scratchOk : ScratchOk State.reset :=
  ⟨List.length_replicate, List.length_replicate, List.length_replicate, List.length_replicate, List.length_replicate,
    List.length_replicate, List.length_replicate⟩

/-- `pc` is (0, 0) after reset, and both frame-buffer bases are 0, whatever `FB_AW` is. -/
theorem State.reset_sequencerOk : SequencerOk State.reset :=
  ⟨by decide, by decide, Nat.two_pow_pos _, Nat.two_pow_pos _⟩

/-- Settles O37, part by part. -/
theorem resetMeetsTheInvariant : Obligations.ResetMeetsTheInvariant :=
  ⟨State.reset_memOk, State.reset_scratchOk, State.reset_sequencerOk, fun _ => rfl, rfl⟩

theorem State.reset_nothingEnabled : NothingEnabled State.reset.regs := ⟨rfl, rfl, rfl⟩

/-- An address within a section is its own remainder, whatever `FB_AW` is (`92_eei_decisions.md` D26). -/
theorem sectionAddress_mod {k : Nat} (hk : k < 14400) : k % 2 ^ Config.fbAW = k :=
  Nat.mod_eq_of_lt (hk.trans_le sectionPixels_le)

/-- Settles O39: after reset nothing is enabled, and the black run goes from address 0 into an empty frame buffer. -/
theorem resetStateRendersBlack : Obligations.ResetStateRendersBlack := by
  intro t ht
  have hfb : (renderSection t State.reset).fb = Mem.storePixels [] 0 sectionZeros :=
    renderSection_fb_of_nothingEnabled State.reset_nothingEnabled ht
  have hcontrol := renderSection_control t State.reset
  simp only [State.control, Prod.mk.injEq] at hcontrol
  obtain ⟨hforced, hblanked, hbase⟩ := hcontrol
  refine ⟨renderSection_regs_of_nothingEnabled State.reset_nothingEnabled t, hforced, hblanked, hbase, rfl,
    fun a ha => ?_, fun a ha => ?_⟩
  · have hpixel := Mem.pixel?_storeZeros [] 0 ha
    rwa [Nat.zero_add, sectionAddress_mod ha, ← hfb] at hpixel
  · rw [hfb, Mem.pixel?_storeZeros_other]
    · rfl
    · intro k hk
      rw [Nat.zero_add, sectionAddress_mod hk]
      omega

end Sys2Proof.Machine
end
